-- ==== Sys2Proof/Word.lean ====
section
/-! DEFINITION. The plain number types of the J4: bytes on a link or the medium, host ports, request tags and
streams. Every quantity the manual counts (RSN, BSN, slot, C, P) is a natural number; R, which may be negative, an
integer. -/

namespace Sys2Proof

/-- One byte of 8 bits (00_scope.md, Conventions). -/
abbrev Byte := BitVec 8

/-- A host port, HP0 to HP3. -/
abbrev Port := Fin 4

/-- One of the four request tags of a host port. -/
abbrev Tag := Fin 4

/-- A stream of host records, 0 to 15. -/
abbrev StreamId := Fin 16

/-- The host ports in port order. -/
def Port.all : List Port := [0, 1, 2, 3]

end Sys2Proof
end

