-- ==== Sys2Proof/Config.lean ====
section
/-! DEFINITION. What the J4 fixes once and for all (the manual's constants and default parameters), and the FREE
VALUES: constants without a body for the values the manual leaves open. Nothing can be proved of a free value, so a
claim about it holds whatever the value is. -/

namespace Sys2Proof

/-- The kinds of message on the drive link: the operations, their completions and the reports (Table 4-1, R70). -/
inductive DriveKind where
  | mount
  | findEnd
  | seek
  | writeSlot
  | readSlot
  | eject
  | mounted
  | noMedium
  | mountError
  | endFound
  | endError
  | seekDone
  | seekError
  | written
  | writeError
  | readDone
  | blank
  | readError
  | ejected
  | ejectError
  | verifyResult
  | cartridgeInserted
  | cartridgeRemoved
  | driveFault
  deriving DecidableEq, Repr

/-- The bytes that stand for the kinds, the medium kinds and the verify results in drive messages. The manual gives none. -/
structure DriveCodes where
  kind   : DriveKind → Byte
  medium : Bool → Byte
  result : Bool → Byte

end Sys2Proof

namespace Sys2Proof.Config

/-- The staging pool holds 48 block buffers (R39). -/
def bufferCount : Nat := 48

/-- The record area of a block, in bytes (R3). -/
def areaSize : Nat := 2016

/-- A block with its header, in bytes (R182). -/
def blockSize : Nat := 2048

/-- The largest payload of a frame (R163). -/
def maxPayload : Nat := 2040

/-- The largest payload of a record (R1). -/
def maxData : Nat := 2000

/-- The close margin in slots (R20, R106). -/
def closeMargin : Int := 32

/-- The scan window in slots (R102, R129). -/
def scanWindow : Nat := 32

/-- A block whose attempt count reaches this faults the volume (R86). -/
def maxAttempts : Nat := 10

/-- Entries of the unverified list (R76). -/
def unverifiedLimit : Nat := 3

/-- READ_BURST: reads under one grant of a cursor (R125). -/
def readBurst : Nat := 8

/-- The replay low mark (R124). -/
def lowMark : Nat := 2

/-- Frames in a transmit queue (R171). -/
def transmitLimit : Nat := 12

/-- Consecutive frame errors that reset a port (R164). -/
def errorLimit : Nat := 8

/-- OP_LIMIT in milliseconds (R59). -/
def opLimit : Nat := 3000

/-- VERIFY_LIMIT in milliseconds (R81, R87). -/
def verifyLimit : Nat := 500

/-- The activity timer of a host link in milliseconds (R162). -/
def activityLimit : Nat := 20

/-- The least and the greatest capacity of a volume in slots (R13). -/
def minCapacity : Nat := 4096
def maxCapacity : Nat := 16777216

/-- 2^48, one beyond the largest RSN (R27). -/
def rsnEnd : Nat := 281474976710656

/-- The largest value of the journal clock, 2^48 − 1 (R30). -/
def clockMax : Nat := 281474976710655

/-- The largest session number (R103). -/
def sessionMax : Nat := 65535

/-- The largest lost-record count a notice carries (R155). -/
def lostMax : Nat := 4294967295

/-- How many reports one step acts on; reports beyond them wait for the next step (log entry 5). -/
def settleBound : Nat := 4096

/-- DESIGN CHOICE (log entry 6): whether the Admission Unit acts first on a wake-up. R55: "The two wake-ups may be acted
on in either order". -/
opaque admissionWakesFirst : Nat → Bool

/-- DESIGN CHOICE (log entry 6): the cursor that asks first when several ask together (R72). -/
opaque firstAsker : Nat → Port

/-- DESIGN CHOICE (log entry 6): whether a port reset releases the port's claims before the head that its purge brings
forward is evaluated (R152). -/
opaque claimsReleasedFirst : Nat → Bool

/-- DESIGN CHOICE (log entry 22): the byte that carries the gate's state (true for CLOSED) in the reply to ACK_NOTICE. -/
opaque gateCode : Bool → Byte

/-- DESIGN CHOICE (log entry 21): which of the four occupied states of Table 10-1 (QUEUED first) a GET_STATUS reports for
its own tag. -/
opaque ownTagOffset : Fin 4

/-- DESIGN CHOICE (log entry 23): the 48 bits that stand for a next RSN of 2^48 in a status reply. -/
opaque exhaustedRsn : BitVec 48

/-- DESIGN CHOICE (log entry 19): the byte at an offset of a slot's record area at or beyond 2,016. -/
opaque byteBeyondArea : List Byte → Nat → Byte

/-- DESIGN CHOICE (log entry 20): whether a record whose kind code is not one of the five passes a filter, from the
record's bytes. -/
opaque unlistedKindPasses : List Byte → Bool

/-- DESIGN CHOICE (log entry 24): the kind bytes of the messages on the drive link. -/
opaque driveKindCode : DriveKind → Byte

/-- DESIGN CHOICE (log entry 24): the byte of the medium kind in a MOUNTED, WRITE_ONCE for true and OTHER for false. -/
opaque mediumCode : Bool → Byte

/-- DESIGN CHOICE (log entry 24): the byte of the result in a VERIFY_RESULT, PASS for true and FAIL for false. -/
opaque resultCode : Bool → Byte

/-- The codes of the drive link (log entry 24). -/
def driveCodes : DriveCodes := { kind := driveKindCode, medium := mediumCode, result := resultCode }

end Sys2Proof.Config
end

