-- ==== Sys2Proof/Machine/Bytes.lean ====
section
/-! DEFINITION. Numbers as bytes, most significant byte first, and the CRC-32 of the host links, the drive link and the
blocks (R180). -/

namespace Sys2Proof.Machine

open Sys2Proof

/-- `n` in `w` bytes, most significant byte first (R180). -/
def beBytes : Nat → Nat → List Byte
  | 0, _ => []
  | w + 1, n => beBytes w (n / 256) ++ [BitVec.ofNat 8 n]

/-- The number that bytes stand for, most significant byte first (R180). -/
def beNat (bytes : List Byte) : Nat := bytes.foldl (fun n b => n * 256 + b.toNat) 0

/-- The bytes at offset `off`, `len` of them. -/
def slice (off len : Nat) (bytes : List Byte) : List Byte := (bytes.drop off).take len

/-- The number at offset `off` in `len` bytes. -/
def natAt (off len : Nat) (bytes : List Byte) : Nat := beNat (slice off len bytes)

/-- An optional value: all ones across its width when unset (R180). -/
def optBytes (w : Nat) : Option Nat → List Byte
  | none => List.replicate w 255#8
  | some n => beBytes w n

/-- An optional RSN: 0 when unset (R180). -/
def rsnBytes (r : Option Nat) : List Byte := beBytes 6 (r.getD 0)

/-- An integer in two's complement (R180). -/
def intBytes (w : Nat) (n : Int) : List Byte := beBytes w (n % ((256 ^ w : Nat) : Int)).toNat

/-- R: all ones when unset, two's complement when set (R180). -/
def optIntBytes (w : Nat) : Option Int → List Byte
  | none => List.replicate w 255#8
  | some n => intBytes w n

/-- A flag: 1 for set, 0 for clear (R181). -/
def flagByte (b : Bool) : Byte := if b then 1 else 0

/-- One bit enters the check register (R180). -/
def crcBit (r : BitVec 32) (b : Bool) : BitVec 32 :=
  if r.msb ^^ b then (r <<< 1) ^^^ 0x04C11DB7#32 else r <<< 1

/-- One byte enters the check register, least significant bit first (R180). -/
def crcByte (r : BitVec 32) (b : Byte) : BitVec 32 := (List.range 8).foldl (fun r i => crcBit r (b.getLsbD i)) r

/-- The CRC-32 over bytes: the register starts at all ones, the result is bit-reversed and complemented (R180). -/
def crc32 (bytes : List Byte) : BitVec 32 := ~~~ (bytes.foldl crcByte (BitVec.allOnes 32)).reverse

end Sys2Proof.Machine
end

