-- ==== Sys2Proof/Syntax.lean ====
section
/-! DEFINITION. The commands of the J4: one constructor for each row of spec/opcode_table.json, in the table's order.
A host request carries the port and the tag it arrived on and the payload bytes of its REQUEST frame (R163, R181), so
that the port's own field checks (R166, Table 10-2) are part of the command's meaning. -/

namespace Sys2Proof

/-- The medium kind a MOUNTED completion carries (R61). -/
inductive MediumKind where
  | writeOnce
  | other
  deriving DecidableEq, Repr

/-- The commands of the block. -/
inductive Instr where
  -- Good REQUEST frames (R163, R166)
  | append (p : Port) (t : Tag) (payload : List Byte)
  | sync (p : Port) (t : Tag) (payload : List Byte)
  | setClock (p : Port) (t : Tag) (payload : List Byte)
  | openStream (p : Port) (t : Tag) (payload : List Byte)
  | closeStream (p : Port) (t : Tag) (payload : List Byte)
  | reserveStream (p : Port) (t : Tag) (payload : List Byte)
  | reserveVolume (p : Port) (t : Tag)
  | releaseStream (p : Port) (t : Tag) (payload : List Byte)
  | releaseVolume (p : Port) (t : Tag)
  | lockRemoval (p : Port) (t : Tag) (payload : List Byte)
  | unlockRemoval (p : Port) (t : Tag) (payload : List Byte)
  | unload (p : Port) (t : Tag) (payload : List Byte)
  | replayOpen (p : Port) (t : Tag) (payload : List Byte)
  | replayNext (p : Port) (t : Tag) (payload : List Byte)
  | replayClose (p : Port) (t : Tag) (payload : List Byte)
  | setParameters (p : Port) (t : Tag) (payload : List Byte)
  | getParameters (p : Port) (t : Tag) (payload : List Byte)
  | getStatus (p : Port) (t : Tag) (payload : List Byte)
  | ackNotice (p : Port) (t : Tag) (payload : List Byte)
  | unknownRequestKind (p : Port) (t : Tag) (kind : Byte) (payload : List Byte)
  -- Other events of a host link (R162 to R172)
  | abort (p : Port) (t : Tag)
  | portReset (p : Port)
  | frameError (p : Port)
  | frameErrorLimit (p : Port)
  | characterReceived (p : Port)
  | activityTimerExpiry (p : Port)
  | frameTransmitted (p : Port)
  -- Completions from the drive, each with its operation number (R60, Table 4-1)
  | mounted (op : Byte) (capacity : BitVec 32) (serial : BitVec 64) (medium : MediumKind)
  | noMedium (op : Byte)
  | mountError (op : Byte)
  | endFound (op : Byte) (e : BitVec 32)
  | endError (op : Byte)
  | seekDone (op : Byte)
  | seekError (op : Byte)
  | written (op : Byte)
  | writeError (op : Byte)
  | readDone (op : Byte) (bytes : List Byte)
  | blank (op : Byte)
  | readError (op : Byte)
  | ejected (op : Byte)
  | ejectError (op : Byte)
  -- Reports from the drive (R70, R71)
  | verifyResult (slot : BitVec 32) (pass : Bool)
  | cartridgeInserted
  | cartridgeRemoved
  | driveFault
  | driveMessageCorrupt
  -- Timers
  | operationTimerExpiry
  | sealTimerExpiry
  | startAgeExpiry (bsn : Nat)
  | deadlineExpiry (p : Port) (t : Tag)
  | verifyTimerExpiry (slot : Nat)
  -- Reset and start-up test (R178, R179)
  | resetNAsserted
  | resetNReleased
  | bufferMemoryTestEnd (pass : Bool)
  | tableMemoryTestEnd (pass : Bool)
  -- The journal clock (R30)
  | journalClockTick
  deriving DecidableEq, Repr

end Sys2Proof
end

