-- ==== Sys2Proof/WellFormed.lean ====
section
/-! DEFINITION. Which terms of Instr stand for a command the J4's surroundings can send. The machine gives EVERY term
a meaning; these checks say only where a term lies outside what its row names. -/

namespace Sys2Proof

/-- A frame's payload is at most 2,040 bytes (R163, R181). -/
def payloadFits (payload : List Byte) : Bool := payload.length ≤ 2040

/-- A RESERVE or RELEASE whose payload is the one byte 255 names the volume (R181): it is the row of the volume, not
the row of a stream. -/
def namesVolume (payload : List Byte) : Bool := payload = [255#8]

/-- The request kinds are numbered 1 to 17 (R181). -/
def knownKind (kind : Byte) : Bool := 1 ≤ kind.toNat && kind.toNat ≤ 17

/-- A command as its row describes it. -/
def Instr.wf : Instr → Bool
  | .append _ _ b => payloadFits b
  | .sync _ _ b => payloadFits b
  | .setClock _ _ b => payloadFits b
  | .openStream _ _ b => payloadFits b
  | .closeStream _ _ b => payloadFits b
  | .reserveStream _ _ b => payloadFits b && !namesVolume b
  | .reserveVolume _ _ => true
  | .releaseStream _ _ b => payloadFits b && !namesVolume b
  | .releaseVolume _ _ => true
  | .lockRemoval _ _ b => payloadFits b
  | .unlockRemoval _ _ b => payloadFits b
  | .unload _ _ b => payloadFits b
  | .replayOpen _ _ b => payloadFits b
  | .replayNext _ _ b => payloadFits b
  | .replayClose _ _ b => payloadFits b
  | .setParameters _ _ b => payloadFits b
  | .getParameters _ _ b => payloadFits b
  | .getStatus _ _ b => payloadFits b
  | .ackNotice _ _ b => payloadFits b
  | .unknownRequestKind _ _ k b => payloadFits b && !knownKind k
  | .abort _ _ => true
  | .portReset _ => true
  | .frameError _ => true
  | .frameErrorLimit _ => true
  | .characterReceived _ => true
  | .activityTimerExpiry _ => true
  | .frameTransmitted _ => true
  | .mounted _ _ _ _ => true
  | .noMedium _ => true
  | .mountError _ => true
  | .endFound _ _ => true
  | .endError _ => true
  | .seekDone _ => true
  | .seekError _ => true
  | .written _ => true
  | .writeError _ => true
  | .readDone _ bytes => bytes.length = 2048
  | .blank _ => true
  | .readError _ => true
  | .ejected _ => true
  | .ejectError _ => true
  | .verifyResult slot _ => slot.toNat < 16777216
  | .cartridgeInserted => true
  | .cartridgeRemoved => true
  | .driveFault => true
  | .driveMessageCorrupt => true
  | .operationTimerExpiry => true
  | .sealTimerExpiry => true
  | .startAgeExpiry bsn => bsn < 4294967296
  | .deadlineExpiry _ _ => true
  | .verifyTimerExpiry slot => slot < 16777216
  | .resetNAsserted => true
  | .resetNReleased => true
  | .bufferMemoryTestEnd _ => true
  | .tableMemoryTestEnd _ => true
  | .journalClockTick => true

end Sys2Proof
end

