-- ==== Sys2Proof/Decode.lean ====
section
/-! DEFINITION. From bits to commands. The opcode table gives no row any bits, so no word of it spells a command (log entry
2). The bytes of a host frame and of a drive message do: `decodeHostFrame` and `decodeDriveMessage` judge them as R163, R181
and R60, R182 lay down. -/

namespace Sys2Proof

open Sys2Proof.Machine

/-- The command that a word of the opcode table spells: none, since no row has bits (log entry 2). -/
def decodeTableWord (_nbits _w : Nat) : Option Instr := none

/-- The command of a good REQUEST frame, by its request kind (R181). -/
def requestCommand (p : Port) (t : Tag) (kind : Byte) (payload : List Byte) : Instr :=
  match kind.toNat with
  | 1 => .append p t payload
  | 2 => .sync p t payload
  | 3 => .setClock p t payload
  | 4 => .openStream p t payload
  | 5 => .closeStream p t payload
  | 6 => if namesVolume payload then .reserveVolume p t else .reserveStream p t payload
  | 7 => if namesVolume payload then .releaseVolume p t else .releaseStream p t payload
  | 8 => .lockRemoval p t payload
  | 9 => .unlockRemoval p t payload
  | 10 => .unload p t payload
  | 11 => .replayOpen p t payload
  | 12 => .replayNext p t payload
  | 13 => .replayClose p t payload
  | 14 => .setParameters p t payload
  | 15 => .getParameters p t payload
  | 16 => .getStatus p t payload
  | 17 => .ackNotice p t payload
  | _ => .unknownRequestKind p t kind payload

/-- The header, the payload length and the check of a frame agree with its bytes (R163, R181): 8 header bytes, the payload,
4 bytes of CRC over both. -/
def frameSound (bytes : List Byte) : Bool :=
  let len := natAt 6 2 bytes
  decide (len ≤ 2040) && decide (bytes.length = 12 + len) &&
    decide (natAt (8 + len) 4 bytes = (crc32 (bytes.take (8 + len))).toNat)

/-- A tag, 0 to 3. -/
def toTag (n : Nat) : Option Tag := if h : n < 4 then some ⟨n, h⟩ else none

/-- The command that the bytes of a frame received on a port stand for (R163, R181). Whether the tag's slot is IDLE is
judged when the command is taken. -/
def decodeHostFrame (p : Port) (bytes : List Byte) : Instr :=
  let len := natAt 6 2 bytes
  if frameSound bytes then
    match natAt 0 1 bytes, toTag (natAt 1 1 bytes) with
    | 1, some t => requestCommand p t (bytes.getD 2 0) (slice 8 len bytes)
    | 2, some t => if len = 0 then .abort p t else .frameError p
    | 3, _ => if len = 0 then .portReset p else .frameError p
    | _, _ => .frameError p
  else .frameError p

/-! ### Messages from the drive (R60, R180, R182) -/

/-- The kinds of message the drive sends: the completions of Table 4-1 and the reports of R70. -/
def DriveKind.fromDrive : List DriveKind :=
  [.mounted, .noMedium, .mountError, .endFound, .endError, .seekDone, .seekError, .written, .writeError, .readDone,
    .blank, .readError, .ejected, .ejectError, .verifyResult, .cartridgeInserted, .cartridgeRemoved, .driveFault]

/-- The two-valued field that a byte stands for, by its two codes; none for any other byte. -/
def codedBool (code : Bool → Byte) (b : Byte) : Option Bool :=
  if b = code true then some true else if b = code false then some false else none

/-- A message without fields. -/
def bareMessage (c : Instr) (fields : List Byte) : Option Instr := if fields = [] then some c else none

/-- The command of a message from the drive: its fields in the order their rule names them, each in its width of Table 12-1, most
significant byte first (R61, R62, R65, R70, R180, R182). The number byte of a report is not looked at (R180). None where
the fields are not recognised. -/
def driveCommand (codes : DriveCodes) (kind : DriveKind) (number : Byte) (fields : List Byte) : Option Instr :=
  match kind with
  | .mounted =>
    if fields.length = 13 then
      (codedBool codes.medium (fields.getD 12 0)).map fun once =>
        .mounted number (BitVec.ofNat 32 (natAt 0 4 fields)) (BitVec.ofNat 64 (natAt 4 8 fields))
          (if once then .writeOnce else .other)
    else none
  | .noMedium => bareMessage (.noMedium number) fields
  | .mountError => bareMessage (.mountError number) fields
  | .endFound => if fields.length = 4 then some (.endFound number (BitVec.ofNat 32 (natAt 0 4 fields))) else none
  | .endError => bareMessage (.endError number) fields
  | .seekDone => bareMessage (.seekDone number) fields
  | .seekError => bareMessage (.seekError number) fields
  | .written => bareMessage (.written number) fields
  | .writeError => bareMessage (.writeError number) fields
  | .readDone => if fields.length = Config.blockSize then some (.readDone number fields) else none
  | .blank => bareMessage (.blank number) fields
  | .readError => bareMessage (.readError number) fields
  | .ejected => bareMessage (.ejected number) fields
  | .ejectError => bareMessage (.ejectError number) fields
  | .verifyResult =>
    if fields.length = 5 then
      (codedBool codes.result (fields.getD 4 0)).map fun pass => .verifyResult (BitVec.ofNat 32 (natAt 0 4 fields)) pass
    else none
  | .cartridgeInserted => bareMessage .cartridgeInserted fields
  | .cartridgeRemoved => bareMessage .cartridgeRemoved fields
  | .driveFault => bareMessage .driveFault fields
  | .mount | .findEnd | .seek | .writeSlot | .readSlot | .eject => none

/-- The last four bytes of a message are the CRC-32 over the bytes before them (R180, R182). -/
def messageSound (bytes : List Byte) : Bool :=
  let n := bytes.length - 4
  decide (6 ≤ bytes.length) && decide (natAt n 4 bytes = (crc32 (bytes.take n)).toNat)

/-- The command that the bytes of a message from the drive stand for, under given codes: a message that fails its CRC, or whose
kind or fields are not recognised, is corrupt (R60). -/
def decodeDriveMessageBy (codes : DriveCodes) (bytes : List Byte) : Instr :=
  if messageSound bytes then
    ((DriveKind.fromDrive.find? fun k => codes.kind k == bytes.getD 0 0).bind fun k =>
      driveCommand codes k (bytes.getD 1 0) (slice 2 (bytes.length - 6) bytes)).getD .driveMessageCorrupt
  else .driveMessageCorrupt

/-- The command that the bytes of a message from the drive stand for (R60, R182); the codes are free values (log entry 24). -/
def decodeDriveMessage (bytes : List Byte) : Instr := decodeDriveMessageBy Config.driveCodes bytes

end Sys2Proof
end

