-- ==== Sys2Proof/Machine/State.lean ====
section
/-! DEFINITION. The state of the J4, as plain data: every piece of state the manual gives its ten functional blocks
(Table I-1), the queue of waiting commands, and two fields of the model's own (signals, choice). And the types of
the two ways in which a step could stop. -/

namespace Sys2Proof.Machine

open Sys2Proof

/-! ## Records and blocks (Chapter 1) -/

/-- The kinds of record (Table 1-2). -/
inductive RecordKind where
  | data
  | streamOpen
  | streamClose
  | clockSet
  | sessionStart
  deriving DecidableEq, Repr

/-- A record: its header fields (Table 1-1) and its payload. -/
structure Record where
  rsn        : Nat
  timestamp  : Nat
  payload    : List Byte
  /-- 0 to 15, or 255 for a record about the journal. -/
  stream     : Nat
  kind       : RecordKind
  /-- 0 to 3 for a host port, 7 for the J4. -/
  origin     : Nat
  clockUnset : Bool
  sync       : Bool
  deriving DecidableEq, Repr

/-- The seal causes (Table 3-2). -/
inductive SealCause where
  | full
  | timer
  | sync
  | drain
  deriving DecidableEq, Repr

/-- The open block (R41, R42). `sealTimer` is the length the running seal timer was started with, none when stopped. -/
structure OpenBlock where
  records   : List Record
  count     : Nat
  fill      : Nat
  firstRsn  : Option Nat
  sealDelay : Nat
  sealTimer : Option Nat
  deriving DecidableEq, Repr

/-- A sealed block: its header fields (Table 1-3, R5), its records, and what the part keeps beside it: its sync-waiter
list (R51), its start-age timer and aged mark (R49) and its attempt count (R76). -/
structure Block where
  bsn      : Nat
  session  : Nat
  cause    : SealCause
  count    : Nat
  fill     : Nat
  firstRsn : Nat
  serial   : BitVec 64
  crc      : BitVec 32
  records  : List Record
  waiters  : List (Port × Tag)
  ageTimer : Option Nat
  aged     : Bool
  attempts : Nat
  deriving DecidableEq, Repr

/-! ## The Control Unit (Chapter 11) -/

/-- Where the part stands between reset and running (R178): RESET_N held, one of the three test phases, halted, or
running after a test that passed. -/
inductive TestState where
  | held
  | phase1
  | phase2
  | phase3
  | halted
  | running
  deriving DecidableEq, Repr

/-- The Control Unit: the test state, the lines it drives, the level of RESET_N, and whether phase 3 has noted a
cartridge as present (R179). -/
structure Control where
  test           : TestState
  testLines      : BitVec 4
  faultLine      : Bool
  resetAsserted  : Bool
  cartridgeNoted : Bool
  deriving DecidableEq, Repr

/-- The parameter set (Table 11-1). -/
structure Params where
  sealDelay    : Nat
  startCount   : Nat
  startAge     : Nat
  holdLimit    : Nat
  ewReserve    : Nat
  readahead    : Nat
  replayLimit  : Nat
  stagingFloor : Nat
  burstMax     : Nat
  deriving DecidableEq, Repr

/-! ## Volumes (Chapter 6) -/

/-- The volume states (Table 6-1). -/
inductive VolState where
  | none
  | mounting
  | seekingEnd
  | ready
  | draining
  | ejecting
  | faulted
  | rejected
  deriving DecidableEq, Repr

/-- The causes of FAULTED (Table 6-2). -/
inductive FaultCause where
  | attempts
  | noSpace
  | drive
  deriving DecidableEq, Repr

/-- The rejection reasons (Table 6-2). -/
inductive RejectReason where
  | mountError
  | notWriteOnce
  | capacity
  | tailUnreadable
  | sessionLimit
  | rsnLimit
  deriving DecidableEq, Repr

/-- The capacity levels (R106). -/
inductive Level where
  | normal
  | low
  | full
  deriving DecidableEq, Repr

/-- A pending UNLOAD (R108): the requester's port and tag, the fault flag (R113), and whether a reply is still owed
(R112: not after a reset of the requester's port). -/
structure Unload where
  port      : Port
  tag       : Tag
  faultFlag : Bool
  owed      : Bool
  deriving DecidableEq, Repr

/-- The volume record (Table 6-2). -/
structure VolumeRecord where
  state        : VolState
  cause        : Option FaultCause
  reason       : Option RejectReason
  serial       : Option (BitVec 64)
  /-- C -/
  capacity     : Option Nat
  /-- P -/
  appendPoint  : Option Nat
  /-- R -/
  remaining    : Option Int
  level        : Option Level
  session      : Option Nat
  /-- D -/
  frontier     : Option Nat
  /-- S_D -/
  frontierSlot : Option Nat
  highestRsn   : Option Nat
  lost         : Option Nat
  unload       : Option Unload
  deriving DecidableEq, Repr

/-- The best candidate of a tail read (R102). -/
structure Candidate where
  bsn      : Nat
  slot     : Nat
  firstRsn : Nat
  count    : Nat
  deriving DecidableEq, Repr

/-- The end-search scratch (R102). -/
structure Scratch where
  slot    : Option Nat
  image   : List Byte
  best    : Option Candidate
  highest : Option Nat
  deriving DecidableEq, Repr

/-! ## Streams, reservations and the removal lock (Chapter 8) -/

/-- A stream entry (Table 8-1). -/
structure StreamEntry where
  isOpen  : Bool
  holder  : Option Port
  count   : Nat
  lastRsn : Option Nat
  deriving DecidableEq, Repr

/-- A set of host ports. -/
abbrev PortSet := Vector Bool 4

/-- The Stream and Reservation Table (R140). -/
structure Claims where
  streams : Vector StreamEntry 16
  volume  : Option Port
  locks   : PortSet
  deriving DecidableEq, Repr

/-! ## Notices (Chapter 9) -/

/-- Causes of RESET_OCCURRED. -/
inductive ResetCause where
  | part
  | port
  deriving DecidableEq, Repr

/-- Causes of VOLUME_GONE. -/
inductive GoneCause where
  | unloaded
  | removed
  | drive
  deriving DecidableEq, Repr

/-- A notice: its kind with the fields of that kind (Table 9-1). -/
inductive Notice where
  | resetOccurred (cause : ResetCause)
  | volumeLoaded (serial : BitVec 64) (session capacity appendPoint rsn : Nat)
  | volumeRejected (reason : RejectReason)
  | volumeGone (cause : GoneCause) (highest : Option Nat) (lost : Nat)
  | writeFailed (cause : FaultCause) (lost : Nat)
  | earlyWarning (remaining : Int) (reserve : Nat)
  | portDown (ports : PortSet)
  | clockSet (value : Nat) (setter : Port)
  deriving DecidableEq, Repr

/-- An entry of a notice queue (R154). -/
structure NoticeEntry where
  number : BitVec 16
  body   : Notice
  sent   : Bool
  deriving DecidableEq, Repr

/-- The notice queue and the notice number counter of one port (R154). -/
structure NoticeUnit where
  queue   : List NoticeEntry
  counter : BitVec 16
  deriving DecidableEq, Repr

/-! ## Replay (Chapter 7) -/

/-- Cursor states (Table 7-1). -/
inductive CursorState where
  | closed
  | filling
  | ready
  | atFrontier
  | failed
  deriving DecidableEq, Repr

/-- Fill phases (R121). -/
inductive Phase where
  | idle
  | asking
  | reading
  | starved
  deriving DecidableEq, Repr

/-- A cursor's filter: the streams selected, bit s for stream s, and the part-record flag. -/
structure Filter where
  streams : BitVec 16
  part    : Bool
  deriving DecidableEq, Repr

/-- An entry of a buffered list: a REPLAY buffer with the 2,048 bytes read, their slot and the gap mark. -/
structure Buffered where
  image : List Byte
  slot  : Nat
  gap   : Bool
  deriving DecidableEq, Repr

/-- A replay cursor (Table 7-1). -/
structure Cursor where
  state     : CursorState
  phase     : Phase
  readPos   : Option Nat
  expected  : Option Nat
  last      : Option Nat
  /-- slot and BSN -/
  candidate : Option (Nat × Nat)
  skipped   : Nat
  hold      : Option Nat
  filter    : Filter
  buffered  : List Buffered
  next      : Option Tag
  gap       : Bool
  reads     : Nat
  inUse     : Option Nat
  inFlight  : Bool
  deriving DecidableEq, Repr

/-! ## Replies (Chapters 10 and 12) -/

/-- Reply status codes (R181). -/
inductive Status where
  | done
  | attention
  | notReady
  | conflict
  | locked
  | noStream
  | badRequest
  | volumeFull
  | writeFailed
  | stalled
  | aborted
  | lost
  | clockBackward
  | busy
  | endOfData
  deriving DecidableEq, Repr

/-- Reply indicators (Table 12-2). -/
structure Indicators where
  low        : Bool
  clockUnset : Bool
  already    : Bool
  gap        : Bool
  deriving DecidableEq, Repr

/-- Tag slot states (Table 10-1). `dispatching` is the model's own: the slot of a request in the course of its dispatch,
occupied but in no waiting state (R165); no slot is so between steps. -/
inductive TagState where
  | idle
  | queued
  | waitingDurable
  | pending
  | replying
  | dispatching
  deriving DecidableEq, Repr

/-- The counts of buffers by state (Table 3-1). -/
structure BufferCounts where
  free       : Nat
  opened     : Nat
  sealed     : Nat
  inWrite    : Nat
  unverified : Nat
  replay     : Nat
  deriving DecidableEq, Repr

/-- The snapshot of GET_STATUS (R177). -/
structure Snapshot where
  volume       : VolumeRecord
  ejectInhibit : Bool
  counts       : BufferCounts
  nextBsn      : Option Nat
  nextRsn      : Option Nat
  clock        : Option Nat
  claims       : Claims
  cursorState  : CursorState
  readPos      : Option Nat
  nBuffered    : Nat
  tags         : Vector TagState 4
  deriving DecidableEq, Repr

/-- What a reply carries beside its header, by the rule that generates it. -/
inductive ReplyBody where
  | empty
  | rsn (r : Option Nat)
  | durable (rsn bsn : Nat) (slot : Option Nat)
  | position (n : Nat)
  | gate (closed : Bool)
  | params (p : Params)
  | status (snapshot : Snapshot)
  | block (bsn slot session : Nat) (records : List (List Byte))
  | endOfData (readPos : Option Nat) (frontierSlot : Option Nat)
  deriving DecidableEq, Repr

/-- A REPLY frame: the tag answered, the request kind of that tag's frame, status, indicators and payload (Table 12-2). -/
structure Reply where
  tag        : Tag
  kind       : Byte
  status     : Status
  indicators : Indicators
  body       : ReplyBody
  deriving DecidableEq, Repr

/-- A frame of a transmit queue (R171). -/
inductive Frame where
  | reply (r : Reply)
  | notice (number : BitVec 16) (body : Notice)
  deriving DecidableEq, Repr

/-! ## Host ports (Chapter 10) -/

/-- The request frame a tag slot holds: the request kind of its header and its payload (R165). The rest of the header
follows from the slot's tag and the payload's length. -/
structure RequestFrame where
  kind    : Byte
  payload : List Byte
  deriving DecidableEq, Repr

/-- A tag slot (R165). -/
structure TagSlot where
  state : TagState
  frame : Option RequestFrame
  rsn   : Option Nat
  reply : Option Reply
  deriving DecidableEq, Repr

/-- An item that waits for room in a transmit queue: the reply held in a tag slot, or the notice of a number (R171). -/
inductive WaitItem where
  | reply (t : Tag)
  | notice (number : BitVec 16)
  deriving DecidableEq, Repr

/-- A Host Port Unit. `waiting` lists the items not yet placed in the order in which they were generated (R171). -/
structure HostPort where
  up       : Bool
  activity : Option Nat
  errors   : Nat
  tags     : Vector TagSlot 4
  transmit : List Frame
  waiting  : List WaitItem
  deriving DecidableEq, Repr

/-! ## Admission (Chapter 2) -/

/-- The writing kinds with the fields an admission queue entry holds for them (Table 2-1). -/
inductive Writing where
  | append (s : StreamId) (sync : Bool) (len : Nat)
  | sync
  | setClock (value : Nat)
  | openStream (s : StreamId)
  | closeStream (s : StreamId)
  deriving DecidableEq, Repr

/-- An admission queue entry (Table 2-1). `deadline` is the length of its running deadline timer, none where HOLD_LIMIT
was 0 at entry. -/
structure Entry where
  port     : Port
  tag      : Tag
  request  : Writing
  deadline : Option Nat
  held     : Bool
  deriving DecidableEq, Repr

/-- The Admission Unit (R16, R27, R30). -/
structure Admission where
  queue   : List Entry
  nextRsn : Option Nat
  clock   : Option Nat
  deriving DecidableEq, Repr

/-! ## The staging pool (Chapter 3) -/

/-- The Staging Pool: the FREE count, the OPEN buffer, the sealed queue and the next BSN. The IN_WRITE and UNVERIFIED
buffers stand in the Append Engine's entries, the REPLAY buffers in the cursors' lists and the outstanding read. -/
structure Pool where
  free    : Nat
  opened  : Option OpenBlock
  sealed  : List Block
  nextBsn : Option Nat
  deriving DecidableEq, Repr

/-! ## The medium port (Chapter 4) -/

/-- The clients of the medium arbiter (R72). -/
inductive Client where
  | volume
  | engine
  | cursor (p : Port)
  deriving DecidableEq, Repr

/-- Who issued the outstanding operation (R59). `closedCursor` marks an operation whose cursor has been closed or
reopened since (R136). -/
inductive Issuer where
  | control
  | volume
  | engine
  | cursor (p : Port)
  | closedCursor (p : Port)
  deriving DecidableEq, Repr

/-- A drive operation with its argument (Table 4-1). -/
inductive DriveOp where
  | mount
  | findEnd
  | seek (n : Nat)
  | write (n : Nat) (bytes : List Byte)
  | read (n : Nat)
  | eject
  deriving DecidableEq, Repr

/-- The outstanding operation (R59). -/
structure Outstanding where
  op     : DriveOp
  number : Byte
  issuer : Issuer
  deriving DecidableEq, Repr

/-- The Medium Port with its arbiter. `link` is none when the link is IDLE; `timer` is the length of the running
operation timer. -/
structure MediumPort where
  link          : Option Outstanding
  timer         : Option Nat
  retry         : Bool
  nextOp        : Byte
  head          : Option Nat
  holder        : Option Client
  volumeWaits   : Bool
  engineWaits   : Bool
  cursorWaits   : PortSet
  writes        : Nat
  burstLimit    : Option Nat
  lastServed    : Port
  deriving DecidableEq, Repr

/-! ## The append engine (Chapter 5) -/

/-- Engine states (Table 5-1). -/
inductive EngineState where
  | idle
  | waitGrant
  | positioning
  | running
  | yielded
  deriving DecidableEq, Repr

/-- An entry of the unverified list (R76). -/
structure Unverified where
  block  : Block
  slot   : Nat
  timer  : Option Nat
  passed : Bool
  deriving DecidableEq, Repr

/-- The IN_WRITE entry (R76). -/
structure InWrite where
  block : Block
  slot  : Nat
  stale : Bool
  deriving DecidableEq, Repr

/-- The Append Engine (R76). -/
structure Engine where
  state      : EngineState
  unverified : List Unverified
  inWrite    : Option InWrite
  yield      : Bool
  deriving DecidableEq, Repr

/-! ## Reports inside a step -/

/-- What one functional block tells another of a change, still to be acted on within the step (log entry 5). -/
inductive Signal where
  /-- Evaluate the head of the admission queue (R17). -/
  | head
  /-- Buffers became FREE (R55). -/
  | wake
  /-- The wake-up of the Admission Unit. -/
  | wakeAdmission
  /-- The wake-up of the Replay Engine. -/
  | wakeReplay
  /-- A block arrived in the sealed queue (R40, R77, R79). -/
  | arrival
  /-- A block aged, a waiter joined a SEALED block's list, or DRAINING was entered (R77). -/
  | startCheck
  /-- The yield signal was raised (R91). -/
  | yieldRaised
  /-- The yield signal was withdrawn (R91). -/
  | yieldWithdrawn
  /-- The grant was handed to a client (R72). -/
  | granted (c : Client)
  /-- The checks the engine makes after an advance of the frontier (R88). -/
  | engineCheck
  /-- The drain-end check: at the drain's start and at each entry of the engine into IDLE (R110). -/
  | drainCheck
  /-- The durable frontier advanced (R121, R124). -/
  | frontier
  /-- A cursor's fill check (R124). -/
  | fillCheck (p : Port)
  /-- A port reset's release of the port's claims, taken after the head's evaluation (R152). -/
  | releaseClaims (p : Port)
  deriving DecidableEq, Repr

/-! ## The whole state -/

/-- The state of the J4. -/
structure State where
  /-- The commands that wait, first in, first out. -/
  pending      : List Instr
  ctl          : Control
  params       : Params
  ports        : Vector HostPort 4
  adu          : Admission
  pool         : Pool
  mpt          : MediumPort
  ape          : Engine
  vom          : VolumeRecord
  scratch      : Scratch
  ejectInhibit : Bool
  cursors      : Vector Cursor 4
  srt          : Claims
  ntu          : Vector NoticeUnit 4
  /-- MODEL's own: reports raised and not yet acted on; empty between steps (log entry 5). -/
  signals      : List Signal
  /-- MODEL's own: the argument of the next free order choice (log entry 6). -/
  choice       : Nat
  deriving DecidableEq, Repr

/-- Why a step stops: never. The manual gives every command an effect in every state, so no fault has a constructor;
nothing raises one, which is safe. -/
inductive Fault where
  deriving DecidableEq, Repr

/-- Why a command has no meaning. -/
inductive Refusal where
  /-- Raised by exec for a command without a meaning. Safe. No arm of exec raises it. -/
  | notModelled (mnemonic : String)
  deriving DecidableEq, Repr

/-! ## Reset values -/

/-- The parameter defaults (Table 11-1). -/
def Params.default : Params :=
  { sealDelay := 40, startCount := 3, startAge := 150, holdLimit := 2000, ewReserve := 2048, readahead := 4,
    replayLimit := 12, stagingFloor := 8, burstMax := 32 }

/-- An IDLE tag slot (R165). -/
def TagSlot.idle : TagSlot := { state := .idle, frame := none, rsn := none, reply := none }

/-- A Host Port Unit after part reset (Table 10-3). -/
def HostPort.reset : HostPort :=
  { up := false, activity := none, errors := 0, tags := Vector.replicate 4 TagSlot.idle, transmit := [], waiting := [] }

/-- A volume record in which every field but the state is unset (R97, R111). -/
def VolumeRecord.unset (st : VolState) : VolumeRecord :=
  { state := st, cause := none, reason := none, serial := none, capacity := none, appendPoint := none,
    remaining := none, level := none, session := none, frontier := none, frontierSlot := none, highestRsn := none,
    lost := none, unload := none }

/-- The end-search scratch with nothing in it. -/
def Scratch.reset : Scratch := { slot := none, image := [], best := none, highest := none }

/-- A CLOSED cursor (R120). -/
def Cursor.reset : Cursor :=
  { state := .closed, phase := .idle, readPos := none, expected := none, last := none, candidate := none, skipped := 0,
    hold := none, filter := { streams := 0, part := false }, buffered := [], next := none, gap := false, reads := 0,
    inUse := none, inFlight := false }

/-- A CLOSED stream entry with fresh counters (R140). -/
def StreamEntry.reset : StreamEntry := { isOpen := false, holder := none, count := 0, lastRsn := none }

/-- The empty set of ports. -/
def PortSet.empty : PortSet := Vector.replicate 4 false

/-- The Stream and Reservation Table after part reset (R140). -/
def Claims.reset : Claims :=
  { streams := Vector.replicate 16 StreamEntry.reset, volume := none, locks := PortSet.empty }

/-- A notice queue and counter after part reset (R154). -/
def NoticeUnit.reset : NoticeUnit := { queue := [], counter := 0 }

/-- The Medium Port after part reset (Table 4-3). -/
def MediumPort.reset : MediumPort :=
  { link := none, timer := none, retry := false, nextOp := 0, head := none, holder := none, volumeWaits := false,
    engineWaits := false, cursorWaits := PortSet.empty, writes := 0, burstLimit := none, lastServed := 3 }

/-- The Append Engine after part reset (Table 5-3). -/
def Engine.reset : Engine := { state := .idle, unverified := [], inWrite := none, yield := false }

/-- The Control Unit while RESET_N is asserted (R178). -/
def Control.reset : Control :=
  { test := .held, testLines := 15, faultLine := false, resetAsserted := true, cartridgeNoted := false }

/-- The machine right after reset: every block at its part-reset value, RESET_N still asserted (R178, log entry 3). -/
def State.reset : State :=
  { pending := [], ctl := Control.reset, params := Params.default, ports := Vector.replicate 4 HostPort.reset,
    adu := { queue := [], nextRsn := none, clock := none },
    pool := { free := Config.bufferCount, opened := none, sealed := [], nextBsn := none },
    mpt := MediumPort.reset, ape := Engine.reset, vom := VolumeRecord.unset .none, scratch := Scratch.reset,
    ejectInhibit := false, cursors := Vector.replicate 4 Cursor.reset, srt := Claims.reset,
    ntu := Vector.replicate 4 NoticeUnit.reset, signals := [], choice := 0 }

end Sys2Proof.Machine
end

