-- ==== Sys2Proof/Machine/Operands.lean ====
section
/-! DEFINITION. What a request's payload bytes ask for: the field checks of R166 and Table 10-2 over the layouts of R181.
A check that fails gives none, and the request is refused BAD_REQUEST. -/

namespace Sys2Proof.Machine

open Sys2Proof

/-- The start of a REPLAY_OPEN (R122). -/
inductive Start where
  | first
  | slot (n : Nat)
  | tail (n : Nat)
  deriving DecidableEq, Repr

/-- The target of a RESERVE or RELEASE (R146 to R148). -/
inductive Target where
  | stream (s : StreamId)
  | volume
  deriving DecidableEq, Repr

/-- A request whose fields have passed the port's checks. -/
inductive Request where
  | writing (w : Writing)
  | reserve (target : Target)
  | release (target : Target)
  | lockRemoval
  | unlockRemoval
  | unload
  | replayOpen (start : Start) (filter : Filter)
  | replayNext
  | replayClose
  | setParameters (pairs : List (Nat × Nat))
  | getParameters
  | getStatus
  | ackNotice (number : BitVec 16)
  deriving DecidableEq, Repr

/-- A stream number, 0 to 15. -/
def toStream (n : Nat) : Option StreamId := if h : n < 16 then some ⟨n, h⟩ else none

/-- A request without fields has an empty payload. -/
def noFields (r : Request) (b : List Byte) : Option Request := if b = [] then some r else none

/-- APPEND: stream, flags, data length, data (R181). -/
def parseAppend (b : List Byte) : Option Request :=
  let len := natAt 2 2 b
  if b.length = 4 + len ∧ len ≤ Config.maxData then
    (toStream (natAt 0 1 b)).map fun s => .writing (.append s ((b.getD 1 0).getLsbD 0) len)
  else none

/-- A payload of one byte that names a stream. -/
def parseStream (f : StreamId → Request) (b : List Byte) : Option Request :=
  if b.length = 1 then (toStream (natAt 0 1 b)).map f else none

/-- The target of a RESERVE or RELEASE: a stream, or 255 for the volume (R181). -/
def parseTarget (f : Target → Request) (b : List Byte) : Option Request :=
  if b.length = 1 then
    if natAt 0 1 b = 255 then some (f .volume) else (toStream (natAt 0 1 b)).map fun s => f (.stream s)
  else none

/-- SET_CLOCK: the value in 6 bytes. -/
def parseSetClock (b : List Byte) : Option Request :=
  if b.length = 6 then some (.writing (.setClock (beNat b))) else none

/-- The start of a REPLAY_OPEN from its form and n (R122, R181). The n of FIRST is disregarded (log entry 33). -/
def parseStart (form n : Nat) : Option Start :=
  if form = 1 then some .first
  else if form = 2 then if n ≤ 16777215 then some (.slot n) else none
  else if form = 3 then if 1 ≤ n ∧ n ≤ 16777216 then some (.tail n) else none
  else none

/-- REPLAY_OPEN: form, n, stream set, part-record flag (R181). -/
def parseReplayOpen (b : List Byte) : Option Request :=
  if b.length = 8 then
    (parseStart (natAt 0 1 b) (natAt 1 4 b)).map fun st =>
      .replayOpen st { streams := BitVec.ofNat 16 (natAt 5 2 b), part := (b.getD 7 0).getLsbD 0 }
  else none

/-- The pairs of a SET_PARAMETERS, each an identifier and a value (R181). -/
def parsePairs : Nat → List Byte → List (Nat × Nat)
  | 0, _ => []
  | k + 1, b => (natAt 0 1 b, natAt 1 2 b) :: parsePairs k (b.drop 3)

/-- SET_PARAMETERS: 1 to 9 pairs (R166, R181). -/
def parseSetParameters (b : List Byte) : Option Request :=
  let k := natAt 0 1 b
  if 1 ≤ k ∧ k ≤ 9 ∧ b.length = 1 + 3 * k then some (.setParameters (parsePairs k (b.drop 1))) else none

/-- ACK_NOTICE: the number in 2 bytes. -/
def parseAck (b : List Byte) : Option Request :=
  if b.length = 2 then some (.ackNotice (BitVec.ofNat 16 (beNat b))) else none

/-- The request of a kind and a payload: kinds are numbered 1 to 17 in the row order of Table 10-2 (R181). -/
def parseRequest (kind : Nat) (b : List Byte) : Option Request :=
  match kind with
  | 1 => parseAppend b
  | 2 => noFields (.writing .sync) b
  | 3 => parseSetClock b
  | 4 => parseStream (fun s => .writing (.openStream s)) b
  | 5 => parseStream (fun s => .writing (.closeStream s)) b
  | 6 => parseTarget .reserve b
  | 7 => parseTarget .release b
  | 8 => noFields .lockRemoval b
  | 9 => noFields .unlockRemoval b
  | 10 => noFields .unload b
  | 11 => parseReplayOpen b
  | 12 => noFields .replayNext b
  | 13 => noFields .replayClose b
  | 14 => parseSetParameters b
  | 15 => noFields .getParameters b
  | 16 => noFields .getStatus b
  | 17 => parseAck b
  | _ => none

/-- The gated kinds (R160, Table 10-2). -/
def Request.gated : Request → Bool
  | .writing _ => true
  | .reserve _ => true
  | .release _ => false
  | .lockRemoval => true
  | .unlockRemoval => false
  | .unload => true
  | .replayOpen _ _ => true
  | .replayNext => true
  | .replayClose => false
  | .setParameters _ => false
  | .getParameters => false
  | .getStatus => false
  | .ackNotice _ => false

end Sys2Proof.Machine
end

