-- ==== Sys2Proof/Machine/Flags.lean ====
section
/-! DEFINITION. What is derived and not stored: the loaded and readable states of a volume, the LOW indicator, the gate of
a port, the EJECT_INHIBIT law, the buffer counts and R. -/

namespace Sys2Proof.Machine

open Sys2Proof

/-- A volume is loaded from SEEKING_END to EJECTING, and while FAULTED for a cause other than DRIVE (log entry 15). -/
def VolumeRecord.loaded (v : VolumeRecord) : Bool :=
  match v.state with
  | .seekingEnd | .ready | .draining | .ejecting => true
  | .faulted => v.cause != some .drive
  | .none | .mounting | .rejected => false

/-- READY, DRAINING, or FAULTED with cause ATTEMPTS or NO_SPACE: what REPLAY_OPEN and RESERVE ask for (R122, R146). -/
def VolumeRecord.readable (v : VolumeRecord) : Bool :=
  match v.state with
  | .ready | .draining => true
  | .faulted => v.cause != some .drive
  | .none | .mounting | .seekingEnd | .ejecting | .rejected => false

/-- The states in which a cursor may ask for the grant (R124). -/
def VolumeRecord.fillable (v : VolumeRecord) : Bool := v.readable || v.state == .ejecting

/-- READY or DRAINING: the states in which R and the level are kept (R105). -/
def VolumeRecord.counting (v : VolumeRecord) : Bool := v.state == .ready || v.state == .draining

/-- The LOW indicator (R18, R167). -/
def State.low (s : State) : Bool := s.vom.loaded && (s.vom.level == some .low || s.vom.level == some .full)

/-- The gating kinds (Table 9-1). -/
def Notice.gating : Notice → Bool
  | .resetOccurred _ => true
  | .volumeLoaded _ _ _ _ _ => true
  | .volumeRejected _ => true
  | .volumeGone _ _ _ => true
  | .writeFailed _ _ => true
  | .earlyWarning _ _ => false
  | .portDown _ => false
  | .clockSet _ _ => false

/-- The gate of a port is CLOSED while its notice queue holds a gating kind (R160). -/
def State.gateClosed (s : State) (p : Port) : Bool := s.ntu[p].queue.any fun e => e.body.gating

/-- Buffers that hold staged blocks: OPEN, SEALED, IN_WRITE and UNVERIFIED (R39). -/
def State.staged (s : State) : Nat :=
  s.pool.opened.toList.length + s.pool.sealed.length + s.ape.inWrite.toList.length + s.ape.unverified.length

/-- A drive read for a cursor, open or closed since, holds a REPLAY buffer (R125, R136). -/
def Outstanding.holdsBuffer (o : Outstanding) : Bool :=
  match o.op, o.issuer with
  | .read _, .cursor _ => true
  | .read _, .closedCursor _ => true
  | _, _ => false

/-- The REPLAY count: the buffered blocks of the four cursors and the destination of an outstanding read (R39, R136, log
entry 31). -/
def State.replayCount (s : State) : Nat :=
  ((s.cursors.toList.map fun c => c.buffered.length).sum) +
    (match s.mpt.link with
    | some o => if o.holdsBuffer then 1 else 0
    | none => 0)

/-- The counts of buffers by state (Table 3-1). -/
def State.counts (s : State) : BufferCounts :=
  { free := s.pool.free, opened := s.pool.opened.toList.length, sealed := s.pool.sealed.length,
    inWrite := s.ape.inWrite.toList.length, unverified := s.ape.unverified.length, replay := s.replayCount }

/-- The level of the EJECT_INHIBIT line: the law of R118. -/
def State.inhibitLaw (s : State) : Bool :=
  (match s.vom.state with
    | .seekingEnd | .ready | .draining | .faulted => true
    | .none | .mounting | .ejecting | .rejected => false) &&
  (s.srt.locks.toList.any id || decide (0 < s.staged))

/-- R by its definition: C − P, less the SEALED count, less 1 if a block is open (R13, R105). -/
def State.remainingNow (s : State) : Option Int :=
  match s.vom.capacity, s.vom.appendPoint with
  | some c, some p => some ((c : Int) - p - s.pool.sealed.length - s.pool.opened.toList.length)
  | _, _ => none

/-- The status of a refusal for a volume that is not READY (Table 2-2); none for READY. -/
def State.volumeRefusal (s : State) : Option Status :=
  match s.vom.state with
  | .ready => none
  | .faulted => if s.vom.cause == some .drive then some .notReady else some .writeFailed
  | .none | .mounting | .seekingEnd | .draining | .ejecting | .rejected => some .notReady

/-- A value is held by a port other than `p`. -/
def heldByOther (holder : Option Port) (p : Port) : Bool :=
  match holder with
  | none => false
  | some q => q != p

/-- A port other than `p` is in the lock set (R108). -/
def PortSet.holdsOther (ps : PortSet) (p : Port) : Bool := Port.all.any fun q => q != p && ps[q]

end Sys2Proof.Machine
end

