-- ==== Sys2Proof/Machine/Formats.lean ====
section
/-! DEFINITION. Byte layouts: records and blocks as written to the cartridge and read back (R3, R6, R7, R182), and the
frames and drive messages the J4 sends (R181, R182). -/

namespace Sys2Proof.Machine

open Sys2Proof

/-! ## Records and blocks -/

/-- The footprint of a record with a payload of `len` bytes (R3). -/
def footprint (len : Nat) : Nat := (16 + len + 7) / 8 * 8

/-- Record kind codes (R182). -/
def RecordKind.code : RecordKind → Nat
  | .data => 1
  | .streamOpen => 2
  | .streamClose => 3
  | .clockSet => 4
  | .sessionStart => 5

/-- Seal cause codes (R182). -/
def SealCause.code : SealCause → Nat
  | .full => 1
  | .timer => 2
  | .sync => 3
  | .drain => 4

/-- The 16-byte record header (Table 12-4). -/
def Record.header (r : Record) : List Byte :=
  beBytes 6 r.rsn ++ beBytes 6 r.timestamp ++ beBytes 2 r.payload.length ++ beBytes 1 r.stream ++
    beBytes 1 (r.kind.code + 8 * r.origin + (if r.clockUnset then 64 else 0) + (if r.sync then 128 else 0))

/-- A record as it stands in the record area: header, payload, zero padding to its footprint (R3, R182). -/
def Record.bytes (r : Record) : List Byte :=
  r.header ++ r.payload ++ List.replicate (footprint r.payload.length - 16 - r.payload.length) 0

/-- The record area, zero beyond the last record (R3, R6). -/
def areaBytes (records : List Record) : List Byte :=
  let body := records.flatMap Record.bytes
  body ++ List.replicate (Config.areaSize - body.length) 0

/-- The format tag (R182). -/
def formatTag : Nat := 0x5A3C9E41

/-- Header bytes 0 to 27 of a block (Table 12-3). -/
def headerBytes (bsn session : Nat) (cause : SealCause) (count fill firstRsn : Nat) (serial : BitVec 64) : List Byte :=
  beBytes 4 formatTag ++ beBytes 4 bsn ++ beBytes 2 session ++ beBytes 1 cause.code ++ beBytes 1 count ++
    beBytes 2 fill ++ beBytes 6 firstRsn ++ beBytes 8 serial.toNat

/-- The 2,048 bytes of a block (R6, R182): every write of the block sends the same. -/
def Block.image (b : Block) : List Byte :=
  headerBytes b.bsn b.session b.cause b.count b.fill b.firstRsn b.serial ++ beBytes 4 b.crc.toNat ++
    areaBytes b.records

/-- The last RSN of a block (R11). -/
def lastRsnOf (firstRsn count : Nat) : Nat := firstRsn + count - 1

/-- The header fields the J4 reads from a GOOD slot (R7). -/
structure SlotHeader where
  bsn      : Nat
  session  : Nat
  count    : Nat
  fill     : Nat
  firstRsn : Nat
  deriving DecidableEq, Repr

/-- The class of a slot read back (R7), with the header of a GOOD one. -/
inductive SlotClass where
  | good (h : SlotHeader)
  | blank
  | bad
  deriving DecidableEq, Repr

/-- GOOD when 2,048 bytes came, with the format tag and a CRC that agrees (R7). -/
def classify (image : List Byte) : SlotClass :=
  if image.length = Config.blockSize ∧ natAt 0 4 image = formatTag ∧
      natAt 28 4 image = (crc32 (image.take 28 ++ image.drop 32)).toNat then
    .good { bsn := natAt 4 4 image, session := natAt 8 2 image, count := natAt 11 1 image,
            fill := natAt 12 2 image, firstRsn := natAt 14 6 image }
  else .bad

/-- The byte at an offset of the record area. DESIGN CHOICE (log entry 19): a free value beyond the 2,016 bytes. -/
def areaByte (image : List Byte) (off : Nat) : Byte :=
  if off < Config.areaSize then image.getD (32 + off) 0 else Config.byteBeyondArea image off

/-- The records of a GOOD slot, each as it stands in the area: walked from `off` up to the fill length by footprints
(R7). -/
def walk (image : List Byte) (fill : Nat) : Nat → Nat → List (List Byte)
  | 0, _ => []
  | k + 1, off =>
    if off < fill then
      let len := beNat [areaByte image (off + 12), areaByte image (off + 13)]
      ((List.range (footprint len)).map fun i => areaByte image (off + i)) :: walk image fill k (off + footprint len)
    else []

/-- The records of a GOOD slot (R7). -/
def slotRecords (image : List Byte) : List (List Byte) :=
  let fill := natAt 12 2 image
  walk image fill (fill / 16 + 1) 0

/-- Whether a record passes a filter (R131). DESIGN CHOICE (log entry 20): free for a kind that is not listed. -/
def Filter.passes (f : Filter) (record : List Byte) : Bool :=
  let kind := (record.getD 15 0).toNat % 8
  let stream := (record.getD 14 0).toNat
  if kind = 1 ∨ kind = 2 ∨ kind = 3 then f.streams.getLsbD stream
  else if kind = 4 ∨ kind = 5 then f.part
  else Config.unlistedKindPasses record

/-- The records of a slot that a filter lets pass, in record order (R131, R132). -/
def Filter.select (f : Filter) (image : List Byte) : List (List Byte) := (slotRecords image).filter f.passes

/-! ## Values named from a list (R181) -/

/-- Status codes (R181). -/
def Status.code : Status → Nat
  | .done => 0
  | .attention => 1
  | .notReady => 2
  | .conflict => 3
  | .locked => 4
  | .noStream => 5
  | .badRequest => 6
  | .volumeFull => 7
  | .writeFailed => 8
  | .stalled => 9
  | .aborted => 10
  | .lost => 11
  | .clockBackward => 12
  | .busy => 13
  | .endOfData => 14

/-- Volume states in the order of Table 6-1. -/
def VolState.code : VolState → Nat
  | .none => 1
  | .mounting => 2
  | .seekingEnd => 3
  | .ready => 4
  | .draining => 5
  | .ejecting => 6
  | .faulted => 7
  | .rejected => 8

/-- Fault causes in the order of Table 6-2; Table 9-1 lists them in the same order. -/
def FaultCause.code : FaultCause → Nat
  | .attempts => 1
  | .noSpace => 2
  | .drive => 3

/-- Rejection reasons in the order of Table 6-2; Table 9-1 lists them in the same order. -/
def RejectReason.code : RejectReason → Nat
  | .mountError => 1
  | .notWriteOnce => 2
  | .capacity => 3
  | .tailUnreadable => 4
  | .sessionLimit => 5
  | .rsnLimit => 6

/-- Capacity levels in the order of Table 6-2. -/
def Level.code : Level → Nat
  | .normal => 1
  | .low => 2
  | .full => 3

/-- Cursor states in the order of Table 7-1. -/
def CursorState.code : CursorState → Nat
  | .closed => 1
  | .filling => 2
  | .ready => 3
  | .atFrontier => 4
  | .failed => 5

/-- Tag states in the order of Table 10-1. DESIGN CHOICE (log entry 21): the state of a request in its dispatch is a free
one of the occupied states. -/
def TagState.code : TagState → Nat
  | .idle => 1
  | .queued => 2
  | .waitingDurable => 3
  | .pending => 4
  | .replying => 5
  | .dispatching => 2 + Config.ownTagOffset.val

/-- Causes of VOLUME_GONE in the order of Table 9-1. -/
def GoneCause.code : GoneCause → Nat
  | .unloaded => 1
  | .removed => 2
  | .drive => 3

/-- Causes of RESET_OCCURRED in the order of Table 9-1. -/
def ResetCause.code : ResetCause → Nat
  | .part => 1
  | .port => 2

/-- A set of ports in one byte, bit p standing for port p (R181). -/
def PortSet.code (ps : PortSet) : Nat :=
  (if ps[0] then 1 else 0) + (if ps[1] then 2 else 0) + (if ps[2] then 4 else 0) + (if ps[3] then 8 else 0)

/-! ## Replies and notices -/

/-- The next RSN in a status reply. DESIGN CHOICE (log entry 23): free for the value 2^48, which 6 bytes cannot hold. -/
def nextRsnBytes : Option Nat → List Byte
  | none => rsnBytes none
  | some r => if r < Config.rsnEnd then beBytes 6 r else beBytes 6 Config.exhaustedRsn.toNat

/-- A stream entry in a status reply (R181). -/
def StreamEntry.bytes (e : StreamEntry) : List Byte :=
  beBytes 1 (if e.isOpen then 2 else 1) ++ optBytes 1 (e.holder.map Fin.val) ++ beBytes 4 e.count ++ rsnBytes e.lastRsn

/-- The volume record in a status reply, in the order of R177. -/
def VolumeRecord.bytes (v : VolumeRecord) : List Byte :=
  beBytes 1 v.state.code ++ optBytes 1 (v.cause.map FaultCause.code) ++ optBytes 1 (v.reason.map RejectReason.code) ++
    optBytes 8 (v.serial.map BitVec.toNat) ++ optBytes 4 v.capacity ++ optBytes 4 v.appendPoint ++
    optIntBytes 4 v.remaining ++ optBytes 1 (v.level.map Level.code) ++ optBytes 2 v.session ++
    optBytes 4 v.frontier ++ optBytes 4 v.frontierSlot ++ rsnBytes v.highestRsn ++ optBytes 4 v.lost ++
    optBytes 1 (v.unload.map fun u => u.port.val)

/-- The payload of a GET_STATUS reply, in the order of R177 (R181). -/
def Snapshot.bytes (x : Snapshot) : List Byte :=
  x.volume.bytes ++ [flagByte x.ejectInhibit] ++
    [x.counts.free, x.counts.opened, x.counts.sealed, x.counts.inWrite, x.counts.unverified, x.counts.replay].flatMap
      (beBytes 1) ++
    optBytes 4 x.nextBsn ++ nextRsnBytes x.nextRsn ++ optBytes 6 x.clock ++ [flagByte x.clock.isSome] ++
    x.claims.streams.toList.flatMap StreamEntry.bytes ++ optBytes 1 (x.claims.volume.map Fin.val) ++
    beBytes 1 x.claims.locks.code ++ beBytes 1 x.cursorState.code ++ optBytes 4 x.readPos ++ beBytes 1 x.nBuffered ++
    x.tags.toList.flatMap fun t => beBytes 1 t.code

/-- The nine parameter values in identifier order, each in 2 bytes (R181). -/
def Params.bytes (p : Params) : List Byte :=
  [p.sealDelay, p.startCount, p.startAge, p.holdLimit, p.ewReserve, p.readahead, p.replayLimit, p.stagingFloor,
    p.burstMax].flatMap (beBytes 2)

/-- The payload of a reply (R181). DESIGN CHOICE (log entry 22): the code of the gate's state is free. -/
def ReplyBody.bytes : ReplyBody → List Byte
  | .empty => []
  | .rsn r => rsnBytes r
  | .durable r bsn slot => beBytes 6 r ++ beBytes 4 bsn ++ optBytes 4 slot
  | .position n => beBytes 4 n
  | .gate closed => [Config.gateCode closed]
  | .params p => p.bytes
  | .status x => x.bytes
  | .block bsn slot session records =>
    beBytes 4 bsn ++ beBytes 4 slot ++ beBytes 2 session ++ beBytes 2 records.length ++ records.flatten
  | .endOfData pos slot => optBytes 4 pos ++ optBytes 4 slot

/-- The kind of a notice, numbered in the row order of Table 9-1 (R181). -/
def Notice.code : Notice → Nat
  | .resetOccurred _ => 1
  | .volumeLoaded _ _ _ _ _ => 2
  | .volumeRejected _ => 3
  | .volumeGone _ _ _ => 4
  | .writeFailed _ _ => 5
  | .earlyWarning _ _ => 6
  | .portDown _ => 7
  | .clockSet _ _ => 8

/-- The fields of a notice, in the order of Table 9-1 (R181). -/
def Notice.fields : Notice → List Byte
  | .resetOccurred cause => beBytes 1 cause.code
  | .volumeLoaded serial session capacity appendPoint rsn =>
    beBytes 8 serial.toNat ++ beBytes 2 session ++ beBytes 4 capacity ++ beBytes 4 appendPoint ++ beBytes 6 rsn
  | .volumeRejected reason => beBytes 1 reason.code
  | .volumeGone cause highest lost => beBytes 1 cause.code ++ rsnBytes highest ++ beBytes 4 lost
  | .writeFailed cause lost => beBytes 1 cause.code ++ beBytes 4 lost
  | .earlyWarning remaining reserve => intBytes 4 remaining ++ beBytes 2 reserve
  | .portDown ports => beBytes 1 ports.code
  | .clockSet value setter => beBytes 6 value ++ beBytes 1 setter.val

/-- The indicators field (Table 12-2). -/
def Indicators.code (i : Indicators) : Nat :=
  (if i.low then 1 else 0) + (if i.clockUnset then 2 else 0) + (if i.already then 4 else 0) + (if i.gap then 8 else 0)

/-- A frame with its check over header and payload (R181). -/
def sealFrame (frameKind tag requestKind status indicators : Nat) (payload : List Byte) : List Byte :=
  let body := beBytes 1 frameKind ++ beBytes 1 tag ++ beBytes 1 requestKind ++ beBytes 1 status ++
    beBytes 2 indicators ++ beBytes 2 payload.length ++ payload
  body ++ beBytes 4 (crc32 body).toNat

/-- The bytes that a frame of a transmit queue puts on the host link (R181). -/
def Frame.bytes : Frame → List Byte
  | .reply r => sealFrame 4 r.tag.val r.kind.toNat r.status.code r.indicators.code r.body.bytes
  | .notice number body =>
    sealFrame 5 0 0 0 0 (beBytes 2 number.toNat ++ beBytes 1 body.code ++ [0] ++ body.fields)

/-! ## Drive operations -/

/-- A message of the drive link, in either direction: kind, operation number (zero in a report), fields, and the check over them
(R180, R182). -/
def driveMessage (kind number : Byte) (fields : List Byte) : List Byte :=
  let body := [kind, number] ++ fields
  body ++ beBytes 4 (crc32 body).toNat

/-- The kind byte of an operation. DESIGN CHOICE (log entry 24): free. -/
def DriveOp.code : DriveOp → Byte
  | .mount => Config.driveKindCode .mount
  | .findEnd => Config.driveKindCode .findEnd
  | .seek _ => Config.driveKindCode .seek
  | .write _ _ => Config.driveKindCode .writeSlot
  | .read _ => Config.driveKindCode .readSlot
  | .eject => Config.driveKindCode .eject

/-- The fields of an operation (R182). -/
def DriveOp.fields : DriveOp → List Byte
  | .mount => []
  | .findEnd => []
  | .seek n => beBytes 4 n
  | .write n bytes => beBytes 4 n ++ bytes
  | .read n => beBytes 4 n
  | .eject => []

/-- The message that carries an operation to the drive: kind, number, fields and check (R182). -/
def Outstanding.bytes (o : Outstanding) : List Byte := driveMessage o.op.code o.number o.op.fields

end Sys2Proof.Machine
end

