-- ==== Sys2Proof/Machine/Ops.lean ====
section
/-! DEFINITION. The named operations every other file is written over: reading and writing a port, a tag slot, a cursor, a
stream entry; raising a report; placing items in a transmit queue (R171); handing over a reply (R167); posting a notice
(R156, R157). -/

namespace Sys2Proof.Machine

open Sys2Proof

/-! ## Access -/

/-- The Host Port Unit of a port. -/
def State.port (s : State) (p : Port) : HostPort := s.ports[p]

/-- Writes the Host Port Unit of a port. -/
def State.setPort (s : State) (p : Port) (h : HostPort) : State := { s with ports := s.ports.set p h }

/-- The slot of a tag. -/
def HostPort.slot (h : HostPort) (t : Tag) : TagSlot := h.tags[t]

/-- Writes the slot of a tag. -/
def HostPort.setSlot (h : HostPort) (t : Tag) (x : TagSlot) : HostPort := { h with tags := h.tags.set t x }

/-- The slot of a port's tag. -/
def State.slot (s : State) (p : Port) (t : Tag) : TagSlot := (s.port p).slot t

/-- Writes the slot of a port's tag. -/
def State.setSlot (s : State) (p : Port) (t : Tag) (x : TagSlot) : State := s.setPort p ((s.port p).setSlot t x)

/-- Sets the state of a port's tag and keeps the rest of the slot. -/
def State.setTagState (s : State) (p : Port) (t : Tag) (st : TagState) : State :=
  s.setSlot p t { s.slot p t with state := st }

/-- The Notice Unit's queue and counter of a port. -/
def State.notices (s : State) (p : Port) : NoticeUnit := s.ntu[p]

/-- Writes the Notice Unit's queue and counter of a port. -/
def State.setNotices (s : State) (p : Port) (n : NoticeUnit) : State := { s with ntu := s.ntu.set p n }

/-- The cursor of a port. -/
def State.cursor (s : State) (p : Port) : Cursor := s.cursors[p]

/-- Writes the cursor of a port. -/
def State.setCursor (s : State) (p : Port) (c : Cursor) : State := { s with cursors := s.cursors.set p c }

/-- The entry of a stream. -/
def State.stream (s : State) (x : StreamId) : StreamEntry := s.srt.streams[x]

/-- Writes the entry of a stream. -/
def State.setStream (s : State) (x : StreamId) (e : StreamEntry) : State :=
  { s with srt := { s.srt with streams := s.srt.streams.set x e } }

/-- Raises a report, behind those already raised. -/
def raise (g : Signal) (s : State) : State := { s with signals := s.signals ++ [g] }

/-- The value that settles a free order choice, and the state in which it is used up (log entry 6). -/
def State.chosen (s : State) : State := { s with choice := s.choice + 1 }

/-! ## The transmit queue (R171) -/

/-- Places one item at the tail of the transmit queue: a reply leaves its slot IDLE (R167), a notice becomes SENT
(R158). -/
def placeOne (w : WaitItem) (h : HostPort) (n : NoticeUnit) : HostPort × NoticeUnit :=
  match w with
  | .reply t =>
    match (h.slot t).reply with
    | some r => ({ (h.setSlot t TagSlot.idle) with transmit := h.transmit ++ [.reply r] }, n)
    | none => (h, n)
  | .notice k =>
    match n.queue.find? (fun e => e.number == k) with
    | some e => ({ h with transmit := h.transmit ++ [.notice k e.body] },
        { n with queue := n.queue.map fun e => if e.number = k then { e with sent := true } else e })
    | none => (h, n)

/-- Places waiting items in the order in which they were generated, until the queue is full or none waits (R171). -/
def placeItems : List WaitItem → HostPort → NoticeUnit → HostPort × NoticeUnit
  | [], h, n => ({ h with waiting := [] }, n)
  | w :: ws, h, n =>
    if h.up = true ∧ h.transmit.length < Config.transmitLimit then
      let hn := placeOne w h n
      placeItems ws hn.1 hn.2
    else ({ h with waiting := w :: ws }, n)

/-- Places what waits at a port (R171). -/
def place (p : Port) (s : State) : State :=
  let hn := placeItems (s.port p).waiting (s.port p) (s.notices p)
  (s.setPort p hn.1).setNotices p hn.2

/-- Withdraws the frame of a notice number from a transmit queue, unless its transmission has begun: the frame at the
head has (R172, log entry 10). -/
def withdrawFrame (k : BitVec 16) : List Frame → List Frame
  | [] => []
  | f :: fs => f :: fs.filter fun g =>
    match g with
    | .notice j _ => j != k
    | .reply _ => true

/-- Withdraws the frames and the waiting items of removed notices (R157, R159). -/
def HostPort.withdraw (h : HostPort) (removed : List NoticeEntry) : HostPort :=
  { h with
    transmit := removed.foldl (fun q e => withdrawFrame e.number q) h.transmit
    waiting := h.waiting.filter fun w => !(removed.any fun e => w == .notice e.number) }

/-! ## Replies (R167) -/

/-- The request kind byte of a tag's frame; 0 where the slot holds none. -/
def TagSlot.kindByte (x : TagSlot) : Byte :=
  match x.frame with
  | some f => f.kind
  | none => 0

/-- The kind number of APPEND. -/
def appendKind : Byte := 1

/-- The indicators of a reply generated now (R167). -/
def State.indicators (s : State) (kind : Byte) (already gap : Bool) : Indicators :=
  { low := s.low, clockUnset := kind == appendKind && s.adu.clock.isNone, already := already, gap := gap }

/-- Hands over a reply: discarded where the tag is IDLE, else placed or held in the slot as REPLYING (R167, R171). -/
def replyWith (p : Port) (t : Tag) (st : Status) (body : ReplyBody) (already gap : Bool) (s : State) : State :=
  let x := s.slot p t
  if x.state = .idle then s
  else
    let r : Reply := { tag := t, kind := x.kindByte, status := st, body := body,
                       indicators := s.indicators x.kindByte already gap }
    let h := (s.port p).setSlot t { x with state := .replying, reply := some r }
    place p (s.setPort p { h with waiting := h.waiting ++ [.reply t] })

/-- A reply with neither ALREADY nor GAP. -/
def reply (p : Port) (t : Tag) (st : Status) (body : ReplyBody) (s : State) : State :=
  replyWith p t st body false false s

/-! ## Notices (R156, R157) -/

/-- The fields of an old entry and a new posting of the same kind, combined as Table 9-1 gives. -/
def Notice.combine : Notice → Notice → Notice
  | .volumeGone _ _ old, .volumeGone cause highest new => .volumeGone cause highest (min (old + new) Config.lostMax)
  | .writeFailed _ old, .writeFailed cause new => .writeFailed cause (min (old + new) Config.lostMax)
  | .portDown old, .portDown new => .portDown (Vector.ofFn fun q => old[q] || new[q])
  | _, new => new

/-- The first value from the counter on that no entry holds; the queue holds at most 7 other entries, so the search ends
within 8 steps (R156). -/
def freshNumber (queue : List NoticeEntry) : Nat → BitVec 16 → BitVec 16
  | 0, k => k
  | n + 1, k => if queue.any (fun e => e.number == k) then freshNumber queue n (k + 1) else k

/-- Posts a notice to one port: a queued entry of the same kind is combined with it and leaves its place, and the new
entry goes to the tail under a new number, UNSENT, and is offered for sending (R156, R157). -/
def post (p : Port) (body : Notice) (s : State) : State :=
  let n := s.notices p
  let old := n.queue.filter fun e => e.body.code = body.code
  let rest := n.queue.filter fun e => e.body.code ≠ body.code
  let body' := old.foldl (fun b e => e.body.combine b) body
  let k := freshNumber rest 8 n.counter
  let h := (s.port p).withdraw old
  place p ((s.setPort p { h with waiting := h.waiting ++ [.notice k] }).setNotices p
    { queue := rest ++ [{ number := k, body := body', sent := false }], counter := k + 1 })

/-- Posts a notice to each of the ports given, in turn. -/
def postAll (ports : List Port) (body : Notice) (s : State) : State := ports.foldl (fun s p => post p body s) s

/-! ## Capacity (R105 to R107) -/

/-- Evaluates the capacity level, and posts EARLY_WARNING where it leaves NORMAL (R106, R107). -/
def evalLevel (s : State) : State :=
  match s.vom.remaining with
  | none => s
  | some r =>
    if s.vom.counting then
      let level :=
        if r ≤ Config.closeMargin then some Level.full
        else if s.vom.level = some .normal ∧ r ≤ s.params.ewReserve then some Level.low
        else s.vom.level
      let s' := { s with vom := { s.vom with level := level } }
      if s.vom.level = some .normal ∧ level ≠ some .normal then postAll Port.all (.earlyWarning r s.params.ewReserve) s'
      else s'
    else s

/-- Recomputes R in a READY or DRAINING volume, and evaluates the level where R has changed (R105). -/
def recomputeR (s : State) : State :=
  if s.vom.counting = true ∧ s.vom.remaining ≠ s.remainingNow then
    evalLevel { s with vom := { s.vom with remaining := s.remainingNow } }
  else s

end Sys2Proof.Machine
end

