-- ==== Sys2Proof/Machine/Pool.lean ====
section
/-! DEFINITION. The Staging Pool (Chapter 3): opening a block, placing a record, sealing, the sealed queue, the sync-waiter
lists, the takes and returns of REPLAY buffers. -/

namespace Sys2Proof.Machine

open Sys2Proof

/-! ## The open block -/

/-- The fill length of the open block; 0 when none is open. -/
def Pool.fill (p : Pool) : Nat :=
  match p.opened with
  | some o => o.fill
  | none => 0

/-- A record of this footprint needs a new block (R20). -/
def State.needsBlock (s : State) (foot : Nat) : Bool :=
  s.pool.opened.isNone || decide (Config.areaSize < s.pool.fill + foot)

/-- A block just opened, before its first record (R41). -/
def OpenBlock.fresh (sealDelay : Nat) : OpenBlock :=
  { records := [], count := 0, fill := 0, firstRsn := none, sealDelay := sealDelay, sealTimer := none }

/-- Opens a block in a FREE buffer and recomputes R (R41). Asked for only when none is open and a buffer is FREE; else
nothing happens (log entry 26). -/
def openBlock (s : State) : State :=
  if s.pool.opened.isNone = true ∧ 0 < s.pool.free then
    recomputeR { s with pool :=
      { s.pool with free := s.pool.free - 1, opened := some (OpenBlock.fresh s.params.sealDelay) } }
  else s

/-- The open block after a placement: the first record fixes the first RSN and starts the seal timer (R42). -/
def OpenBlock.place (o : OpenBlock) (r : Record) : OpenBlock :=
  { o with
    records := o.records ++ [r]
    count := o.count + 1
    fill := o.fill + footprint r.payload.length
    firstRsn := if o.count = 0 then some r.rsn else o.firstRsn
    sealTimer := if o.count = 0 then some o.sealDelay else o.sealTimer }

/-- Places a record in the open block (R42). -/
def placeRecord (r : Record) (s : State) : State :=
  { s with pool := { s.pool with opened := s.pool.opened.map fun o => o.place r } }

/-! ## Sealing (R44) -/

/-- The block that a seal makes of the open block: its header fields, its CRC, an empty sync-waiter list, a running
start-age timer, an attempt count of 0 (R5, R6, R44, R86). -/
def sealedBlock (o : OpenBlock) (cause : SealCause) (bsn session : Nat) (serial : BitVec 64) (startAge : Nat) : Block :=
  let first := o.firstRsn.getD 0
  { bsn := bsn, session := session, cause := cause, count := o.count, fill := o.fill, firstRsn := first,
    serial := serial,
    crc := crc32 (headerBytes bsn session cause o.count o.fill first serial ++ areaBytes o.records),
    records := o.records, waiters := [], ageTimer := some startAge, aged := false, attempts := 0 }

/-- Seals the open block: the next BSN is used, the block joins the tail of the sealed queue, and the arrival is reported
(R44). Without an open block nothing happens. -/
def sealBlock (cause : SealCause) (s : State) : State :=
  match s.pool.opened with
  | none => s
  | some o =>
    let bsn := s.pool.nextBsn.getD 0
    let b := sealedBlock o cause bsn (s.vom.session.getD 0) (s.vom.serial.getD 0) s.params.startAge
    raise .arrival (recomputeR { s with pool :=
      { s.pool with opened := none, sealed := s.pool.sealed ++ [b], nextBsn := some (bsn + 1) } })

/-! ## The sealed queue (R46 to R49) -/

/-- A block back in the sealed queue has neither a running start-age timer nor an aged mark (R47 to R49). -/
def Block.returned (b : Block) : Block := { b with ageTimer := none, aged := false }

/-- Puts a block in its place in BSN order (R48). -/
def insertBlock (b : Block) : List Block → List Block
  | [] => [b]
  | x :: xs => if b.bsn ≤ x.bsn then b :: x :: xs else x :: insertBlock b xs

/-- Blocks in BSN order. -/
def sortBlocks (bs : List Block) : List Block := bs.foldr insertBlock []

/-! ## Sync-waiter lists (R51, R52) -/

/-- Changes the waiter lists of every staged block. -/
def State.mapBlocks (f : Block → Block) (s : State) : State :=
  { s with
    pool := { s.pool with sealed := s.pool.sealed.map f }
    ape := { s.ape with
      unverified := s.ape.unverified.map fun u => { u with block := f u.block }
      inWrite := s.ape.inWrite.map fun w => { w with block := f w.block } } }

/-- Every block that is SEALED, IN_WRITE or UNVERIFIED, the latter first. -/
def State.writtenBlocks (s : State) : List Block :=
  s.ape.unverified.map (fun u => u.block) ++ s.ape.inWrite.toList.map (fun w => w.block) ++ s.pool.sealed

/-- A waiter joins the tail of the list of the block of this BSN (R51); where the block is SEALED the engine is told
(R77). -/
def joinWaiters (bsn : Nat) (p : Port) (t : Tag) (s : State) : State :=
  let s' := s.mapBlocks fun b => if b.bsn = bsn then { b with waiters := b.waiters ++ [(p, t)] } else b
  if s.pool.sealed.any fun b => b.bsn == bsn then raise .startCheck s' else s'

/-- Waiters leave every list; the others keep their order (R52). -/
def dropWaiters (gone : Port × Tag → Bool) (s : State) : State :=
  s.mapBlocks fun b => { b with waiters := b.waiters.filter fun w => !gone w }

/-! ## Buffers that become FREE, and the replay share (R53 to R55) -/

/-- Buffers become FREE at one event, with one wake-up (R55). -/
def freeBuffers (k : Nat) (s : State) : State :=
  if k = 0 then s else raise .wake { s with pool := { s.pool with free := s.pool.free + k } }

/-- A take is granted by the floor test and the limit test (R53). -/
def State.takeGranted (s : State) : Bool :=
  decide (s.params.stagingFloor + 1 ≤ s.pool.free) && decide (s.replayCount < s.params.replayLimit)

end Sys2Proof.Machine
end

