-- ==== Sys2Proof/Machine/Admission.lean ====
section
/-! DEFINITION. The Admission Unit (Chapter 2): the queue, the tests at its head, the records it builds, and the ways out of
the queue. -/

namespace Sys2Proof.Machine

open Sys2Proof

/-! ## The tests at the head (R19 to R33, Table 2-3) -/

/-- What the tests at the head say. -/
inductive Verdict where
  | refused (st : Status)
  /-- DONE with ALREADY (R32). -/
  | already
  | held
  | granted
  deriving DecidableEq, Repr

/-- No RSN is left (R20, R27). -/
def State.rsnExhausted (s : State) : Bool :=
  match s.adu.nextRsn with
  | some r => decide (Config.rsnEnd ≤ r)
  | none => true

/-- The tests of space for a record of this footprint: capacity with the given margin, the hold for a buffer, and the
exhaustion of the RSN space (R20, R21). -/
def State.spaceTest (s : State) (foot : Nat) (margin : Int) : Verdict :=
  if s.needsBlock foot = true ∧ s.vom.remaining.getD 0 - 1 < margin then .refused .volumeFull
  else if s.needsBlock foot = true ∧ s.pool.free = 0 then .held
  else if s.rsnExhausted then .refused .volumeFull
  else .granted

/-- The capacity margin of a record: that of CLOSE_STREAM is 32 slots smaller (R20, R33). -/
def Writing.margin : Writing → Int
  | .closeStream _ => 0
  | .append _ _ _ | .sync | .setClock _ | .openStream _ => Config.closeMargin

/-- The footprint of the record a writing request makes (Table 1-2). -/
def Writing.foot : Writing → Nat
  | .append _ _ len => footprint len
  | .sync => 0
  | .setClock _ => footprint 8
  | .openStream _ => footprint 0
  | .closeStream _ => footprint 8

/-- The value is below the running clock (R31). -/
def State.clockAbove (s : State) (value : Nat) : Bool :=
  match s.adu.clock with
  | some c => decide (value < c)
  | none => false

/-- The tests of Table 2-3 between the volume test and the tests of space: none where all are passed. -/
def State.kindTest (s : State) (p : Port) : Writing → Option Verdict
  | .append x _ _ =>
    if (s.stream x).isOpen = false then some (.refused .noStream)
    else if heldByOther s.srt.volume p ∨ heldByOther (s.stream x).holder p then some (.refused .conflict)
    else none
  | .sync => some .granted
  | .setClock v =>
    if heldByOther s.srt.volume p then some (.refused .conflict)
    else if s.clockAbove v then some (.refused .clockBackward)
    else none
  | .openStream x =>
    if heldByOther s.srt.volume p then some (.refused .conflict)
    else if (s.stream x).isOpen then some .already
    else none
  | .closeStream x =>
    if (s.stream x).isOpen = false then some (.refused .noStream)
    else if heldByOther s.srt.volume p ∨ heldByOther (s.stream x).holder p then some (.refused .conflict)
    else none

/-- The tests of a writing request at the head, in the order of Table 2-3. -/
def State.verdict (s : State) (p : Port) (w : Writing) : Verdict :=
  match s.volumeRefusal with
  | some st => .refused st
  | none =>
    match s.kindTest p w with
    | some v => v
    | none => s.spaceTest w.foot w.margin

/-! ## Records (R1, R2, R8 to R10) -/

/-- A record with the timestamp of the journal clock: 0 with CLOCK_UNSET where the clock is unset (R1, R22). -/
def stampRecord (s : State) (kind : RecordKind) (stream origin : Nat) (sync : Bool) (payload : List Byte) (rsn : Nat) :
    Record :=
  { rsn := rsn, timestamp := s.adu.clock.getD 0, payload := payload, stream := stream, kind := kind, origin := origin,
    clockUnset := s.adu.clock.isNone, sync := sync }

/-- The payload of a STREAM_CLOSE record: the stream's count and the distance of its last RSN (R10, R144). -/
def closePayload (e : StreamEntry) (rsn : Nat) : List Byte :=
  beBytes 4 e.count ++ beBytes 4 (match e.lastRsn with
    | some l => rsn - l
    | none => 0)

/-- The payload of a CLOCK_SET record: the old value in 8 bytes, all ones where the clock was unset (R9). -/
def clockPayload (clock : Option Nat) : List Byte := optBytes 8 clock

/-- The payload bytes of an APPEND, from the tag slot that holds its frame (R16, R181). -/
def TagSlot.data (x : TagSlot) (len : Nat) : List Byte :=
  match x.frame with
  | some f => slice 4 len f.payload
  | none => []

/-- The record that a writing request makes of the next RSN (R9, R10, R22). A SYNC makes none: its arm stands for no
record. -/
def State.recordFor (s : State) (p : Port) (t : Tag) (w : Writing) (rsn : Nat) : Record :=
  match w with
  | .append x sync len => stampRecord s .data x.val p.val sync ((s.slot p t).data len) rsn
  | .sync => stampRecord s .data 255 p.val false [] rsn
  | .setClock v =>
    { stampRecord s .clockSet 255 p.val false (clockPayload s.adu.clock) rsn with timestamp := v, clockUnset := false }
  | .openStream x => stampRecord s .streamOpen x.val p.val false [] rsn
  | .closeStream x => stampRecord s .streamClose x.val p.val false (closePayload (s.stream x) rsn) rsn

/-- Places a record: where it needs a new block the open one is sealed FULL and a new one opened; the next RSN advances
(R22, R27). -/
def placeNew (r : Record) (s : State) : State :=
  let s' := if s.needsBlock (footprint r.payload.length) then openBlock (sealBlock .full s) else s
  placeRecord r { s' with adu := { s'.adu with nextRsn := some (r.rsn + 1) } }

/-! ## What an admission does beside its record -/

/-- A tag becomes a waiter with its recorded RSN (R24, R28, R165). -/
def makeWaiter (p : Port) (t : Tag) (rsn bsn : Nat) (s : State) : State :=
  joinWaiters bsn p t (s.setSlot p t { s.slot p t with state := .waitingDurable, rsn := some rsn })

/-- The counters of a stream take one more DATA record (R142). -/
def countRecord (x : StreamId) (rsn : Nat) (s : State) : State :=
  s.setStream x { s.stream x with count := (s.stream x).count + 1, lastRsn := some rsn }

/-- The BSN of the block sealed last: the next BSN less 1 (R28). -/
def State.lastBsn (s : State) : Nat := s.pool.nextBsn.getD 0 - 1

/-- D is set and at or above a BSN. -/
def State.durable (s : State) (bsn : Nat) : Bool :=
  match s.vom.frontier with
  | some d => decide (bsn ≤ d)
  | none => false

/-- An admitted SYNC: the open block is sealed, and the request is answered DONE or waits on its target (R28). -/
def admitSync (p : Port) (t : Tag) (s : State) : State :=
  let s' := sealBlock .sync s
  let covered := s'.adu.nextRsn.getD 0 - 1
  let target := s'.lastBsn
  if s'.durable target then reply p t .done (.durable covered target none) s'
  else makeWaiter p t covered target s'

/-- An admitted request of a kind that makes a record, after the placement of that record with this RSN (R22 to R24, R31
to R33). -/
def afterRecord (p : Port) (t : Tag) (w : Writing) (rsn : Nat) (s : State) : State :=
  match w with
  | .append x true _ => let s' := sealBlock .sync (countRecord x rsn s); makeWaiter p t rsn s'.lastBsn s'
  | .append x false _ => reply p t .done (.rsn (some rsn)) (countRecord x rsn s)
  | .sync => s
  | .setClock v =>
    reply p t .done (.rsn (some rsn)) (postAll (Port.all.filter fun q => q ≠ p) (.clockSet v p)
      { s with adu := { s.adu with clock := some v } })
  | .openStream x => reply p t .done (.rsn (some rsn)) (s.setStream x { s.stream x with isOpen := true })
  | .closeStream x =>
    reply p t .done (.rsn (some rsn)) (s.setStream x { s.stream x with isOpen := false, holder := none })

/-- An admission (R22, R28, R31 to R33). -/
def admission (p : Port) (t : Tag) (w : Writing) (s : State) : State :=
  match w with
  | .sync => admitSync p t s
  | w =>
    let rsn := s.adu.nextRsn.getD 0
    afterRecord p t w rsn (placeNew (s.recordFor p t w rsn) s)

/-! ## The queue (R16, R17) -/

/-- Writes the admission queue. -/
def State.setQueue (s : State) (q : List Entry) : State := { s with adu := { s.adu with queue := q } }

/-- The next entry is evaluated, if there is one (R17). -/
def evalNext (s : State) : State := if s.adu.queue = [] then s else raise .head s

/-- One evaluation of the head (R17, R21). -/
def evalHead (s : State) : State :=
  match s.adu.queue with
  | [] => s
  | e :: rest =>
    match s.verdict e.port e.request with
    | .refused st => evalNext (reply e.port e.tag st .empty (s.setQueue rest))
    | .already => evalNext (replyWith e.port e.tag .done .empty true false (s.setQueue rest))
    | .held => (sealBlock .full s).setQueue ({ e with held := true } :: rest)
    | .granted => evalNext (admission e.port e.tag e.request (s.setQueue rest))

/-- The wake-up of the Admission Unit: a HELD head is evaluated again (R25, R55). -/
def wakeHead (s : State) : State :=
  match s.adu.queue with
  | [] => s
  | e :: _ => if e.held then evalHead s else s

/-- A writing request joins the tail of the queue; its deadline timer starts with HOLD_LIMIT, and an empty queue is
evaluated (R16, R17, R26). -/
def joinQueue (p : Port) (t : Tag) (w : Writing) (s : State) : State :=
  let e : Entry := { port := p, tag := t, request := w, held := false,
                     deadline := if s.params.holdLimit = 0 then none else some s.params.holdLimit }
  let s' := (s.setTagState p t .queued).setQueue (s.adu.queue ++ [e])
  if s.adu.queue = [] then raise .head s' else s'

/-- Entries leave their places in the queue; where the head was among them the next head is evaluated by `whenHead`
(R26, R34, R35). -/
def removeEntries (gone : Entry → Bool) (whenHead : State → State) (s : State) : State :=
  let rest := s.adu.queue.filter fun e => !gone e
  let s' := s.setQueue rest
  if (s.adu.queue.head?.any gone) = true ∧ rest ≠ [] then whenHead s' else s'

/-- The entry of a port and a tag. -/
def Entry.isOf (p : Port) (t : Tag) (e : Entry) : Bool := e.port == p && e.tag == t

/-- An entry leaves the queue refused with a status (R26, R34). -/
def refuseEntry (p : Port) (t : Tag) (st : Status) (s : State) : State :=
  removeEntries (Entry.isOf p t) (raise .head) (reply p t st .empty s)

/-- Expiry of an entry's deadline timer (R26). It acts only while the entry's timer runs (log entry 4). -/
def deadlineExpired (p : Port) (t : Tag) (s : State) : State :=
  if s.adu.queue.any fun e => e.isOf p t && e.deadline.isSome then refuseEntry p t .stalled s else s

/-- An ABORT of a waiter: it leaves its list and is replied ABORTED with its recorded RSN (R34). -/
def abortWaiter (p : Port) (t : Tag) (s : State) : State :=
  reply p t .aborted (.rsn (s.slot p t).rsn) (dropWaiters (fun w => w == (p, t)) s)

/-- The refusals of one pass over the queue, head first (R36). -/
def refuseAll (st : Status) : List Entry → State → State
  | [], s => s
  | e :: es, s => refuseAll st es (reply e.port e.tag st .empty s)

/-- Every entry is refused with the status of the volume's state, in queue order (R36). -/
def refuseQueue (s : State) : State := refuseAll (s.volumeRefusal.getD .notReady) s.adu.queue (s.setQueue [])

/-- A port reset removes the port's entries and waiters without replies (R35). -/
def purgePort (p : Port) (whenHead : State → State) (s : State) : State :=
  removeEntries (fun e => e.port == p) whenHead (dropWaiters (fun w => w.1 == p) s)

/-- The journal clock advances by one microsecond and stands at 2^48 − 1 (R30). -/
def tickClock (s : State) : State :=
  { s with adu := { s.adu with clock := s.adu.clock.map fun c => min (c + 1) Config.clockMax } }

end Sys2Proof.Machine
end

