-- ==== Sys2Proof/Machine/Arbiter.lean ====
section
/-! DEFINITION. The Medium Port (Chapter 4): issuing an operation, ending it, accepting a completion, and the medium
arbiter with its grant and its yield signal. -/

namespace Sys2Proof.Machine

open Sys2Proof

/-! ## Operations (R59, R60, R67) -/

/-- A cursor waits for the grant. -/
def MediumPort.cursorWaiting (m : MediumPort) : Bool := m.cursorWaits.toList.any id

/-- The append write count is at or above the burst limit in use (R72, R73). -/
def MediumPort.burstDone (m : MediumPort) : Bool :=
  match m.burstLimit with
  | some l => decide (l ≤ m.writes)
  | none => false

/-- Raises the yield signal where its three conditions hold: asked at each WRITE_SLOT issue and at each cursor request
(R73). -/
def yieldCheck (s : State) : State :=
  if s.mpt.holder = some .engine ∧ s.mpt.cursorWaiting = true ∧ s.mpt.burstDone = true ∧ s.ape.yield = false then
    raise .yieldRaised { s with ape := { s.ape with yield := true } }
  else s

/-- Withdraws the yield signal where no cursor waits any more (R73). -/
def yieldRecheck (s : State) : State :=
  if s.ape.yield = true ∧ s.mpt.cursorWaiting = false then
    raise .yieldWithdrawn { s with ape := { s.ape with yield := false } }
  else s

/-- The Medium Port with an operation issued: numbered, timed, recorded, sent (R59). -/
def MediumPort.send (m : MediumPort) (op : DriveOp) (issuer : Issuer) (retry : Bool) : MediumPort :=
  { m with link := some { op := op, number := m.nextOp, issuer := issuer }, timer := some Config.opLimit,
           nextOp := m.nextOp + 1, retry := retry }

/-- Issues an operation; while the link is OUTSTANDING none is issued (R59). -/
def issue (op : DriveOp) (issuer : Issuer) (s : State) : State :=
  if s.mpt.link = none then { s with mpt := s.mpt.send op issuer false } else s

/-- A WRITE_SLOT issue counts against the burst limit (R73). -/
def issueWrite (n : Nat) (bytes : List Byte) (s : State) : State :=
  let s' := issue (.write n bytes) .engine s
  yieldCheck { s' with mpt := { s'.mpt with writes := s'.mpt.writes + 1 } }

/-- Ends the outstanding operation: the timer stops, the retry flag clears, the link is IDLE (R59); the head position
becomes `head`. -/
def endOperation (head : Option Nat) (s : State) : State :=
  { s with mpt := { s.mpt with link := none, timer := none, retry := false, head := head } }

/-- The outstanding operation, where a completion with this number and kind is accepted (R60). -/
def State.accepted (s : State) (number : Byte) (kind : DriveOp → Bool) : Option Outstanding :=
  s.mpt.link.filter fun o => o.number == number && kind o.op

/-! ## The grant (R72 to R74) -/

/-- A client is in the set of waiting requests. -/
def MediumPort.waits (m : MediumPort) (c : Client) : Bool :=
  match c with
  | .volume => m.volumeWaits
  | .engine => m.engineWaits
  | .cursor p => m.cursorWaits[p]

/-- Puts a client in the set of waiting requests, or takes it out. -/
def MediumPort.setWaits (m : MediumPort) (c : Client) (b : Bool) : MediumPort :=
  match c with
  | .volume => { m with volumeWaits := b }
  | .engine => { m with engineWaits := b }
  | .cursor p => { m with cursorWaits := m.cursorWaits.set p b }

/-- The order in which cursors are chosen after the last-served one (R74). -/
def portsAfter (p : Port) : List Port := [p + 1, p + 2, p + 3, p]

/-- The waiting cursor that comes first after the last-served one (R74). -/
def MediumPort.nextCursor (m : MediumPort) : Option Port := (portsAfter m.lastServed).find? fun p => m.cursorWaits[p]

/-- The choice at a hand-over, in the order of R72. -/
def MediumPort.choose (m : MediumPort) : Option Client :=
  if m.volumeWaits then some .volume
  else if m.engineWaits && !(m.cursorWaiting && m.burstDone) then some .engine
  else
    match m.nextCursor with
    | some p => some (.cursor p)
    | none => if m.engineWaits then some .engine else none

/-- Gives the grant to a client: it leaves the waiting set, BURST_MAX is taken as the burst limit in use, and a cursor is
recorded as last served with the write count at 0 (R72 to R74). -/
def grant (c : Client) (s : State) : State :=
  let m := { s.mpt.setWaits c false with holder := some c, burstLimit := some s.params.burstMax }
  raise (.granted c) { s with mpt :=
    match c with
    | .cursor p => { m with writes := 0, lastServed := p }
    | .volume | .engine => m }

/-- The hand-over, where no client holds the grant and the link is IDLE (R72). -/
def handOver (s : State) : State :=
  if s.mpt.holder = none ∧ s.mpt.link = none then
    match s.mpt.choose with
    | some c => grant c s
    | none => s
  else s

/-- A request for the grant (R72); a cursor's request asks whether the engine is to yield (R73). -/
def request (c : Client) (s : State) : State :=
  if s.mpt.holder = some c ∨ s.mpt.waits c = true then s
  else if s.mpt.holder = none ∧ s.mpt.link = none then grant c s
  else
    let s' := { s with mpt := s.mpt.setWaits c true }
    match c with
    | .cursor _ => yieldCheck s'
    | .volume | .engine => s'

/-- A waiting client withdraws its request (R72). -/
def withdrawRequest (c : Client) (s : State) : State := yieldRecheck { s with mpt := s.mpt.setWaits c false }

/-- The holder releases the grant; when the link is IDLE the hand-over takes place at once (R72). The yield signal ends
with the engine's hold (R73, log entry 16). -/
def release (c : Client) (s : State) : State :=
  if s.mpt.holder = some c then
    let y := if c = .engine then false else s.ape.yield
    handOver { s with mpt := { s.mpt with holder := none }, ape := { s.ape with yield := y } }
  else s

/-- A client lets go of the grant or of its waiting request. -/
def letGo (c : Client) (s : State) : State := withdrawRequest c (release c s)

end Sys2Proof.Machine
end

