-- ==== Sys2Proof/Machine/Staging.lean ====
section
/-! DEFINITION. The staging drop with the Append Engine's teardown (R56, R94), and the Volume Manager's side of a write
fault and of the end of a drain (R110, R113). -/

namespace Sys2Proof.Machine

open Sys2Proof

/-- The records in the OPEN, SEALED, IN_WRITE and UNVERIFIED buffers (R56). -/
def State.stagedRecords (s : State) : Nat :=
  (match s.pool.opened with
    | some o => o.count
    | none => 0) + (s.writtenBlocks.map fun b => b.count).sum

/-- Replies LOST to each waiter, in list order (R94), with its recorded RSN, which a waiter's final reply carries (R165, Table
10-1). -/
def lostWaiters : List (Port × Tag) → State → State
  | [], s => s
  | w :: ws, s => lostWaiters ws (reply w.1 w.2 .lost (.rsn (s.slot w.1 w.2).rsn) s)

/-- The engine's state is given up: lists, IN_WRITE entry, attempt counts and yield signal end, and it lets go of the grant
(R94, steps 2 to 4). -/
def teardownEngine (s : State) : State := letGo .engine { s with ape := Engine.reset }

/-- The staging drop and the engine's teardown, with the record count added to the lost-record count (R56, R94, R113 to
R116). -/
def dropStaging (s : State) : State :=
  let n := s.stagedRecords
  let k := s.staged
  let s := lostWaiters ((sortBlocks s.writtenBlocks).flatMap fun b => b.waiters) s
  let s := { s with
    pool := { s.pool with opened := none, sealed := [] }
    vom := { s.vom with lost := some (s.vom.lost.getD 0 + n) } }
  freeBuffers k (teardownEngine s)

/-- The eject is asked for: EJECTING, with a request for the grant (R110). -/
def beginEject (s : State) : State := request .volume { s with vom := { s.vom with state := .ejecting } }

/-- A write fault (R113). DESIGN CHOICE (log entry 38): with an UNLOAD pending the Volume Manager asks for the grant, step 5,
before the wake-ups of the staging drop of step 3 are acted on. -/
def writeFault (cause : FaultCause) (s : State) : State :=
  if s.vom.counting then
    let n := s.stagedRecords
    let s := { s with vom := { s.vom with state := .faulted, cause := some cause } }
    let s := postAll Port.all (.writeFailed cause n) (dropStaging (refuseQueue s))
    match s.vom.unload with
    | some u => beginEject { s with vom := { s.vom with unload := some { u with faultFlag := true } } }
    | none => s
  else s

/-- The drain-end check (R110). -/
def drainCheck (s : State) : State :=
  if s.vom.state = .draining ∧ s.ape.state = .idle ∧ s.staged = 0 then beginEject s else s

end Sys2Proof.Machine
end

