-- ==== Sys2Proof/Machine/Engine.lean ====
section
/-! DEFINITION. The Append Engine (Chapter 5): starting a burst, writing, verify reports, relocation, the durable frontier,
the end of a burst and yielding. -/

namespace Sys2Proof.Machine

open Sys2Proof

/-- Changes the engine's state. -/
def State.setEngine (s : State) (st : EngineState) : State := { s with ape := { s.ape with state := st } }

/-- P, while a volume is loaded. -/
def State.appendPoint (s : State) : Nat := s.vom.appendPoint.getD 0

/-- No slot remains: P equals C (R80). -/
def State.mediumFull (s : State) : Bool := decide (s.vom.capacity.getD 0 ≤ s.appendPoint)

/-! ## Starting, positioning, writing (R77 to R80) -/

/-- The start conditions (R77). -/
def State.startWanted (s : State) : Bool :=
  !s.pool.sealed.isEmpty &&
    (decide (s.params.startCount ≤ s.pool.sealed.length) || s.pool.sealed.any (fun b => b.aged || !b.waiters.isEmpty) ||
      s.vom.state == .draining)

/-- The start evaluation of an IDLE engine (R77, R93). -/
def startEval (s : State) : State :=
  if s.ape.state = .idle ∧ s.vom.counting = true ∧ s.startWanted = true then
    request .engine (s.setEngine .waitGrant)
  else s

/-- The engine asks for SEEK(P) (R78, R79). -/
def seekToP (s : State) : State := issue (.seek s.appendPoint) .engine (s.setEngine .positioning)

/-- The issue of a write at P with the block at the head of the sealed queue: its timer stops, its aged mark is cleared, P
rises, R is recomputed (R46, R49, R79). -/
def writeHead (b : Block) (rest : List Block) (s : State) : State :=
  let n := s.appendPoint
  recomputeR (issueWrite n b.image { s with
    pool := { s.pool with sealed := rest }
    ape := { s.ape with inWrite := some { block := b.returned, slot := n, stale := false } }
    vom := { s.vom with appendPoint := some (n + 1) } })

/-- The write check of a RUNNING engine (R79, R80). -/
def writeCheck (s : State) : State :=
  match s.pool.sealed with
  | [] => s
  | b :: rest =>
    if s.ape.state = .running ∧ s.ape.inWrite = none ∧ s.ape.unverified.length < Config.unverifiedLimit ∧
        s.ape.yield = false then
      if s.mediumFull then writeFault .noSpace s
      else if s.mpt.head = some s.appendPoint then writeHead b rest s
      else seekToP s
    else s

/-! ## The end of a burst, and yielding (R90, R91) -/

/-- Nothing queued, nothing unverified, no write outstanding (R90). -/
def State.burstOver (s : State) : Bool :=
  s.pool.sealed.isEmpty && s.ape.unverified.isEmpty && s.ape.inWrite.isNone

/-- The end of a burst: RUNNING releases, YIELDED withdraws, and the engine goes IDLE, which is reported (R90). -/
def burstEnd (s : State) : State :=
  if (s.ape.state = .running ∨ s.ape.state = .yielded) ∧ s.burstOver = true then
    raise .drainCheck (letGo .engine (s.setEngine .idle))
  else s

/-- The answer to a standing yield signal: the engine goes IDLE where its burst is over, else it releases, goes YIELDED and
asks again at the moment of the release (R91). -/
def yieldGrant (s : State) : State :=
  if s.burstOver then raise .drainCheck (letGo .engine (s.setEngine .idle))
  else
    let s := s.setEngine .yielded
    release .engine { s with mpt := s.mpt.setWaits .engine true }

/-- What a RUNNING engine does once an event is handled: it answers a standing yield signal when no write is outstanding,
else it makes the write check and the burst-end check (R79, R90, R91). -/
def engineSettle (s : State) : State :=
  if s.ape.state = .running then
    if s.ape.yield = true then
      if s.ape.inWrite = none then yieldGrant s else s
    else burstEnd (writeCheck s)
  else s

/-- The checks after an advance of the frontier: RUNNING or YIELDED (R88, R90, R92). -/
def engineCheck (s : State) : State :=
  match s.ape.state with
  | .running => engineSettle s
  | .yielded => burstEnd s
  | .idle | .waitGrant | .positioning => s

/-- The engine receives the grant (R78). -/
def engineGranted (s : State) : State :=
  if s.mpt.holder = some .engine ∧ (s.ape.state = .waitGrant ∨ s.ape.state = .yielded) then
    if s.pool.sealed ≠ [] ∧ s.mediumFull = false ∧ s.mpt.head ≠ some s.appendPoint then seekToP s
    else engineSettle (s.setEngine .running)
  else s

/-- SEEK_DONE for the engine (R78, R91, R95). -/
def engineSeekDone (s : State) : State :=
  if s.ape.state = .positioning then engineSettle (s.setEngine .running) else s

/-- The yield signal is raised (R91): a POSITIONING engine waits for its SEEK. -/
def engineYield (s : State) : State := if s.ape.yield then engineSettle s else s

/-- The arrival of a block in the sealed queue, or another start event (R77, R79, Table 5-2). -/
def engineStart (s : State) : State :=
  match s.ape.state with
  | .idle => startEval s
  | .running => engineSettle s
  | .waitGrant | .positioning | .yielded => s

/-! ## Completions of a write (R81 to R83) -/

/-- A block goes back to its place in the sealed queue, and R is recomputed (R48). -/
def returnBlock (b : Block) (s : State) : State :=
  recomputeR { s with pool := { s.pool with sealed := insertBlock b s.pool.sealed } }

/-- The fault of a block whose attempt count has reached its limit, else the engine goes on (R82, R85, R86). -/
def afterFailure (attempts : Nat) (s : State) : State :=
  if Config.maxAttempts ≤ attempts then writeFault .attempts s else engineSettle s

/-- A write of the engine's has ended, WRITTEN or WRITE_ERROR (R81 to R83, R95). -/
def writeEnded (ok : Bool) (s : State) : State :=
  match s.ape.inWrite with
  | none => s
  | some w =>
    let s := { s with ape := { s.ape with inWrite := none } }
    if w.stale then engineSettle (returnBlock w.block s)
    else if ok then
      let u : Unverified := { block := w.block, slot := w.slot, timer := some Config.verifyLimit, passed := false }
      engineSettle { s with ape := { s.ape with unverified := s.ape.unverified ++ [u] } }
    else
      let b := { w.block with attempts := w.block.attempts + 1 }
      afterFailure b.attempts (returnBlock b s)

/-! ## Verify reports (R84 to R89) -/

/-- Replies DONE to each waiter of a block made durable, in list order (R89). -/
def doneWaiters (bsn slot : Nat) : List (Port × Tag) → State → State
  | [], s => s
  | w :: ws, s =>
    doneWaiters bsn slot ws (reply w.1 w.2 .done (.durable ((s.slot w.1 w.2).rsn.getD 0) bsn (some slot)) s)

/-- A block becomes durable: D, S_D and the highest durable RSN move, its waiters are answered, its buffer is FREE (R88,
R89, R97). The wake-up is given once for the whole event (R55). -/
def makeDurable (u : Unverified) (rest : List Unverified) (s : State) : State :=
  let b := u.block
  let s := { s with
    ape := { s.ape with unverified := rest }
    vom := { s.vom with frontier := some b.bsn, frontierSlot := some u.slot,
                        highestRsn := some (lastRsnOf b.firstRsn b.count) } }
  let s := doneWaiters b.bsn u.slot b.waiters s
  { s with pool := { s.pool with free := s.pool.free + 1 } }

/-- The head entry of the unverified list is durable, and every next entry that carries the passed mark (R88). -/
def advance : List Unverified → State → State
  | [], s => s
  | u :: rest, s =>
    let s' := makeDurable u rest s
    match rest with
    | [] => s'
    | v :: _ => if v.passed then advance rest s' else s'

/-- A relocation run from the entry at this place in the unverified list (R85, R86). -/
def relocate (i : Nat) (s : State) : State :=
  match s.ape.unverified.drop i with
  | [] => s
  | u :: later =>
    let b := { u.block with attempts := u.block.attempts + 1 }
    let run := b :: later.map fun v => v.block
    let s := { s with
      ape := { s.ape with
        unverified := s.ape.unverified.take i
        inWrite := s.ape.inWrite.map fun w => { w with stale := true } }
      pool := { s.pool with sealed := run ++ s.pool.sealed } }
    afterFailure b.attempts (recomputeR s)

/-- The place in the unverified list of the entry for a slot. -/
def Engine.findSlot (e : Engine) (slot : Nat) : Option Nat := e.unverified.findIdx? fun u => u.slot == slot

/-- A verify report (R84). -/
def verifyReport (slot : Nat) (pass : Bool) (s : State) : State :=
  match s.ape.findSlot slot with
  | none => s
  | some i =>
    match s.ape.unverified[i]? with
    | none => s
    | some u =>
      if u.passed then s
      else if pass = false then relocate i s
      else if i = 0 then
        raise .engineCheck (raise .wake (raise .frontier (advance s.ape.unverified s)))
      else
        { s with ape := { s.ape with
            unverified := s.ape.unverified.set i { u with passed := true, timer := none } } }

/-- Expiry of the verify timer of the entry for a slot: a failure of its block (R87). It acts only while the timer runs
(log entry 4). -/
def verifyExpired (slot : Nat) (s : State) : State :=
  match s.ape.findSlot slot with
  | none => s
  | some i => if (s.ape.unverified[i]?.bind fun u => u.timer).isSome then relocate i s else s

/-! ## Timers of the pool that the engine hears of (R49) -/

/-- Expiry of the start-age timer of a SEALED block (R49). It acts only while the timer runs (log entry 4). -/
def startAgeExpired (bsn : Nat) (s : State) : State :=
  if s.pool.sealed.any fun b => b.bsn == bsn && b.ageTimer.isSome then
    raise .startCheck { s with pool := { s.pool with
      sealed := s.pool.sealed.map fun b => if b.bsn = bsn then { b with ageTimer := none, aged := true } else b } }
  else s

end Sys2Proof.Machine
end

