-- ==== Sys2Proof/Machine/Replay.lean ====
section
/-! DEFINITION. The Replay Engine (Chapter 7): cursors, the fill check, fills, the judgement of a slot read,
resynchronisation, REPLAY_NEXT, and the end of a cursor. -/

namespace Sys2Proof.Machine

open Sys2Proof

/-- An optional value is set and above an optional bound, or the bound is unset. -/
def aboveBound (n : Nat) (bound : Option Nat) : Bool :=
  match bound with
  | none => true
  | some b => decide (b < n)

/-- The frontier hold is set and above D (R121, R125). -/
def Cursor.held (c : Cursor) (d : Option Nat) : Bool :=
  match c.hold with
  | none => false
  | some h => aboveBound h d

/-- D is unset, or the read position is above S_D (R121, R125). -/
def Cursor.pastFrontier (c : Cursor) (v : VolumeRecord) : Bool :=
  v.frontier.isNone || aboveBound (c.readPos.getD 0) v.frontierSlot

/-- The state of an open cursor follows from its fields (R121). CLOSED and FAILED are not derived. -/
def Cursor.derive (c : Cursor) (v : VolumeRecord) : Cursor :=
  if c.state = .closed ∨ c.state = .failed then c
  else if c.buffered ≠ [] then { c with state := .ready }
  else if c.pastFrontier v || c.held v.frontier then { c with state := .atFrontier }
  else { c with state := .filling }

/-- Derives the state of a port's cursor again (R121). -/
def deriveCursor (p : Port) (s : State) : State := s.setCursor p ((s.cursor p).derive s.vom)

/-! ## The fill check (R124) -/

/-- The conditions of the fill check (R124). -/
def State.fillWanted (s : State) (c : Cursor) : Bool :=
  c.state != .closed && c.state != .failed && (c.phase == .idle || c.phase == .starved) && s.vom.fillable &&
    !c.pastFrontier s.vom && !c.held s.vom.frontier &&
    decide (c.buffered.length < Config.lowMark) && decide (c.buffered.length < s.params.readahead)

/-- The fill check of a cursor: it asks for the grant; a STARVED cursor that does not ask becomes IDLE (R124). -/
def fillCheck (p : Port) (s : State) : State :=
  let c := s.cursor p
  if s.fillWanted c then request (.cursor p) (s.setCursor p { c with phase := .asking })
  else if c.phase = .starved then s.setCursor p { c with phase := .idle }
  else s

/-! ## Answers to REPLAY_NEXT (R132, R133) -/

/-- END_OF_DATA, with GAP where the indicator is set, which it clears (R132). -/
def replyEndOfData (p : Port) (t : Tag) (s : State) : State :=
  let c := s.cursor p
  replyWith p t .endOfData (.endOfData c.readPos s.vom.frontierSlot) false c.gap (s.setCursor p { c with gap := false })

/-- The body of a DONE reply with a buffered block (R132, R181). -/
def Buffered.body (b : Buffered) (f : Filter) : ReplyBody :=
  .block (natAt 4 4 b.image) b.slot (natAt 8 2 b.image) (f.select b.image)

/-- DONE with the head of the buffered list: the entry leaves the list, its buffer becomes FREE, the state is derived and
the fill check made (R132). DESIGN CHOICE (log entry 40): the fill check asks before the wake-ups of the buffer just freed are
acted on. -/
def deliver (p : Port) (t : Tag) (s : State) : State :=
  let c := s.cursor p
  match c.buffered with
  | [] => s
  | b :: rest =>
    let s := replyWith p t .done (b.body c.filter) false b.gap s
    let s := freeBuffers 1 (s.setCursor p { c with buffered := rest })
    fillCheck p (deriveCursor p s)

/-- The pending NEXT of a cursor ends (R133). -/
def Cursor.noNext (c : Cursor) : Cursor := { c with next := none }

/-- A pending NEXT is answered with a block just kept (R133). -/
def deliverPending (p : Port) (s : State) : State :=
  let c := s.cursor p
  match c.next with
  | some t => if c.buffered = [] then s else deliver p t (s.setCursor p c.noNext)
  | none => s

/-- A pending NEXT is answered END_OF_DATA where a fill ends and the cursor is AT_FRONTIER (R133). -/
def endPending (p : Port) (s : State) : State :=
  let c := s.cursor p
  match c.next with
  | some t => if c.state = .atFrontier then replyEndOfData p t (s.setCursor p c.noNext) else s
  | none => s

/-- The tag goes to PENDING and the request becomes the pending NEXT (R132). -/
def keepNext (p : Port) (t : Tag) (s : State) : State :=
  (s.setTagState p t .pending).setCursor p { s.cursor p with next := some t }

/-- REPLAY_NEXT by the state of the cursor (R132). In FILLING with the phase IDLE the fill check is made too (log entry
11). -/
def replayNext (p : Port) (t : Tag) (s : State) : State :=
  match (s.cursor p).state with
  | .closed => reply p t .badRequest .empty s
  | .failed => reply p t .notReady .empty s
  | .ready => deliver p t s
  | .atFrontier =>
    let s := fillCheck p (deriveCursor p s)
    if (s.cursor p).state = .filling then keepNext p t s else replyEndOfData p t s
  | .filling =>
    if (s.cursor p).next = none then
      let s := keepNext p t s
      if (s.cursor p).phase = .idle then fillCheck p s else s
    else reply p t .busy .empty s

/-- ABORT of a pending NEXT (R133). -/
def abortNext (p : Port) (t : Tag) (s : State) : State :=
  reply p t .aborted .empty (s.setCursor p (s.cursor p).noNext)

/-! ## Fills (R125, R126) -/

/-- The cursor holds the grant and fills. -/
def State.reading (s : State) (p : Port) : Bool :=
  s.mpt.holder == some (.cursor p) && (s.cursor p).phase == .reading

/-- A fill stops: the grant is released, the phase set, the state derived, a pending NEXT resolved and the fill check made. After
a refused take a cursor whose check would ask at once stays STARVED and waits for a wake-up; one whose conditions no longer hold
becomes IDLE by the check (R124 to R126, log entry 12). -/
def stopFill (p : Port) (phase : Phase) (s : State) : State :=
  let s := release (.cursor p) (s.setCursor p { s.cursor p with phase := phase })
  let s := endPending p (deriveCursor p s)
  if phase = .starved ∧ s.fillWanted (s.cursor p) = true then s else fillCheck p s

/-- The stop conditions of a fill (R125). -/
def State.fillOver (s : State) (c : Cursor) : Bool :=
  decide (c.inUse.getD 0 ≤ c.buffered.length) || decide (Config.readBurst ≤ c.reads) || c.pastFrontier s.vom ||
    c.held s.vom.frontier

/-- One step of a fill: stop, SEEK, or take a buffer and READ (R125). While the link is OUTSTANDING none is taken (R59). -/
def fillStep (p : Port) (s : State) : State :=
  if s.reading p = true ∧ s.mpt.link = none then
    let c := s.cursor p
    let n := c.readPos.getD 0
    if s.fillOver c then stopFill p .idle s
    else if s.mpt.head ≠ some n then issue (.seek n) (.cursor p) s
    else if s.takeGranted then
      issue (.read n) (.cursor p)
        ({ s with pool := { s.pool with free := s.pool.free - 1 } }.setCursor p
          { c with inFlight := true, reads := c.reads + 1 })
    else stopFill p .starved s
  else s

/-- A cursor receives the grant: a fill begins (R125). -/
def cursorGranted (p : Port) (s : State) : State :=
  let c := s.cursor p
  if s.mpt.holder = some (.cursor p) ∧ c.phase = .asking then
    fillStep p (s.setCursor p { c with phase := .reading, reads := 0, inUse := some s.params.readahead })
  else s

/-! ## The judgement of a slot (R127 to R131) -/

/-- The judgement of a slot by its class, the first case that applies (R127). -/
inductive Judgement where
  | skip
  /-- Skipped, and the candidate where none is set. -/
  | skipAbove
  | frontierStop
  | accept
  deriving DecidableEq, Repr

/-- The judgement of a slot (R127). -/
def Cursor.judge (c : Cursor) (d : Option Nat) : SlotClass → Judgement
  | .blank | .bad => .skip
  | .good h =>
    if aboveBound h.bsn d then .frontierStop
    else
      match c.expected with
      | some e => if h.bsn = e then .accept else if h.bsn < e then .skip else .skipAbove
      | none =>
        match c.last with
        | none => .accept
        | some l => if l < h.bsn then .accept else .skip

/-- Resynchronisation at the candidate (R130). -/
def Cursor.resync (c : Cursor) (slot : Nat) : Cursor :=
  { c with readPos := some slot, expected := none, skipped := 0, candidate := none, hold := none, gap := true }

/-- The resynchronisation check (R129). -/
def Cursor.checkLost (c : Cursor) (v : VolumeRecord) : Cursor :=
  match c.candidate with
  | some (slot, _) => if Config.scanWindow ≤ c.skipped ∨ c.pastFrontier v = true then c.resync slot else c
  | none => c

/-- A slot is skipped: the count rises by 1, unless it stands at 32 (R127). -/
def Cursor.skip (c : Cursor) : Cursor := { c with skipped := min (c.skipped + 1) Config.scanWindow }

/-- The frontier stop: resynchronisation where a candidate is set, else the slot is to be read again (R128). -/
def Cursor.stopAt (c : Cursor) (slot bsn : Nat) : Cursor :=
  match c.candidate with
  | some (k, _) => c.resync k
  | none => { c with readPos := some slot, hold := some bsn }

/-- An accepted slot (R127), kept with the gap mark where `keep` is true (R130, R131). -/
def Cursor.acceptSlot (c : Cursor) (slot bsn : Nat) (image : List Byte) (keep : Bool) : Cursor :=
  let c := { c with expected := some (bsn + 1), last := some bsn, candidate := none, skipped := 0 }
  if keep then { c with buffered := c.buffered ++ [{ image := image, slot := slot, gap := c.gap }], gap := false } else c

/-- What a completed read makes of the cursor, and whether the buffer was kept (R127 to R131). -/
def Cursor.afterRead (c : Cursor) (v : VolumeRecord) (slot : Nat) (cls : SlotClass) (image : List Byte) :
    Cursor × Bool :=
  let c := { c with inFlight := false, readPos := some (slot + 1), hold := none }
  let bsn :=
    match cls with
    | .good h => h.bsn
    | .blank | .bad => 0
  match c.judge v.frontier cls with
  | .skip => (c.skip.checkLost v, false)
  | .skipAbove => ((({ c with candidate := some (c.candidate.getD (slot, bsn)) } : Cursor).skip).checkLost v, false)
  | .frontierStop => (c.stopAt slot bsn, false)
  | .accept =>
    let keep := !(c.filter.select image).isEmpty
    ((c.acceptSlot slot bsn image keep).checkLost v, keep)

/-- The completion of a read for a cursor that is still open: the slot is judged, a buffer not kept becomes FREE, a pending
NEXT is answered, and the fill goes on (R125, R127, R133). DESIGN CHOICE (log entry 37): the fill takes its next step, which may
be its stop and a hand-over of the grant, before the wake-ups of the buffer just freed are acted on. -/
def cursorRead (p : Port) (slot : Nat) (cls : SlotClass) (image : List Byte) (s : State) : State :=
  let r := (s.cursor p).afterRead s.vom slot cls image
  let s := deriveCursor p (s.setCursor p r.1)
  let s := if r.2 then deliverPending p s else freeBuffers 1 s
  fillStep p s

/-! ## Opening, closing and losing a cursor (R122, R123, R135 to R139) -/

/-- An outstanding operation of a cursor that is closed ends for no cursor (R136). -/
def Issuer.closed (i : Issuer) (p : Port) : Issuer := if i = .cursor p then .closedCursor p else i

/-- The outstanding operation is told that a cursor has been closed (R136). -/
def markClosed (p : Port) (s : State) : State :=
  { s with mpt := { s.mpt with link := s.mpt.link.map fun o => { o with issuer := o.issuer.closed p } } }

/-- A pending NEXT is replied with a status (R135, R137). -/
def answerNext (p : Port) (st : Status) (s : State) : State :=
  match (s.cursor p).next with
  | some t => reply p t st .empty s
  | none => s

/-- A cursor's arbiter request and its buffers are given up, and it is set to `c` (R135, R137). -/
def dropCursor (p : Port) (c : Cursor) (s : State) : State :=
  let k := (s.cursor p).buffered.length
  let s := letGo (.cursor p) (markClosed p s)
  freeBuffers k (s.setCursor p c)

/-- Closes a cursor; a pending NEXT is replied ABORTED where `answer` is true (R135, R139). -/
def closeCursor (p : Port) (answer : Bool) (s : State) : State :=
  if (s.cursor p).state = .closed then s
  else dropCursor p Cursor.reset (if answer then answerNext p .aborted s else s)

/-- REPLAY_CLOSE (R135). DESIGN CHOICE (log entry 41): the DONE is generated before the hand-over and the wake-ups that the close
gives rise to are acted on. -/
def replayClose (p : Port) (t : Tag) (s : State) : State := reply p t .done .empty (closeCursor p true s)

/-- The read position of a start (R123). -/
def Start.position (st : Start) (slotD : Option Nat) : Nat :=
  match st, slotD with
  | .first, _ => 0
  | .slot n, _ => n
  | .tail n, some d => d + 1 - n
  | .tail _, none => 0

/-- The checks of REPLAY_OPEN (R122). -/
def State.openRefusal (s : State) (st : Start) (f : Filter) : Option Status :=
  if s.vom.readable = false then some .notReady
  else if f.streams = 0 ∧ f.part = false then some .badRequest
  else
    match st with
    | .slot n => if s.vom.frontier.isNone || aboveBound n s.vom.frontierSlot then some .badRequest else none
    | .first | .tail _ => none

/-- A cursor as REPLAY_OPEN sets it up (R123). -/
def Cursor.opened (n : Nat) (f : Filter) : Cursor := { Cursor.reset with state := .filling, readPos := some n, filter := f }

/-- REPLAY_OPEN (R122, R123). DESIGN CHOICE (log entry 40): the reopened cursor's fill check asks before the wake-ups of the old
cursor's freed buffers are acted on, and its DONE is generated before them too (log entry 41). -/
def replayOpen (p : Port) (t : Tag) (st : Start) (f : Filter) (s : State) : State :=
  match s.openRefusal st f with
  | some status => reply p t status .empty s
  | none =>
    let n := st.position s.vom.frontierSlot
    let s := deriveCursor p ((closeCursor p true s).setCursor p (Cursor.opened n f))
    fillCheck p (reply p t .done (.position n) s)

/-- A cursor fails at volume loss; the filter is kept (R137). -/
def failCursor (s : State) (p : Port) : State :=
  let c := s.cursor p
  if c.state = .closed ∨ c.state = .failed then s
  else dropCursor p { Cursor.reset with state := .failed, filter := c.filter } (answerNext p .notReady s)

/-- The cursors fail in port order (R137). -/
def failCursors (s : State) : State := Port.all.foldl failCursor s

/-! ## Reports from other blocks (R121, R124, R126, R134) -/

/-- The frontier has advanced: every open cursor's state is derived again, and a READY one makes its fill check. -/
def frontierMoved (s : State) : State :=
  Port.all.foldl (fun s p =>
    let s := deriveCursor p s
    if (s.cursor p).state = .ready then fillCheck p s else s) s

/-- The ports in turn, from one on. -/
def portsFrom (p : Port) : List Port := [p, p + 1, p + 2, p + 3]

/-- Every STARVED cursor makes its fill check (R126). The cursor that asks first is free (R72, log entry 6). -/
def wakeStarved (s : State) : State :=
  (portsFrom (Config.firstAsker s.choice)).foldl (fun s p =>
    if (s.cursor p).phase = .starved then fillCheck p s else s) s.chosen

end Sys2Proof.Machine
end

