-- ==== Sys2Proof/Machine/Volume.lean ====
section
/-! DEFINITION. The Volume Manager (Chapter 6): mount, end search, tail read, session start, UNLOAD and the drain, the
eject, removal and drive fault. -/

namespace Sys2Proof.Machine

open Sys2Proof

/-- Changes the state of the volume. -/
def State.setVol (s : State) (st : VolState) : State := { s with vom := { s.vom with state := st } }

/-! ## From insertion to READY (R98 to R104) -/

/-- A mount begins (R98). -/
def beginMount (s : State) : State := request .volume (s.setVol .mounting)

/-- The Volume Manager receives the grant: MOUNT or EJECT (R98, R110). -/
def volumeGranted (s : State) : State :=
  if s.mpt.holder = some .volume then
    match s.vom.state with
    | .mounting => issue .mount .volume s
    | .ejecting => issue .eject .volume s
    | .none | .seekingEnd | .ready | .draining | .faulted | .rejected => s
  else s

/-- The volume is rejected (R100). C and the serial stay recorded (R99); P holds no value, since no volume is loaded (R13, Table
1-4). -/
def rejectVolume (reason : RejectReason) (s : State) : State :=
  postAll Port.all (.volumeRejected reason)
    (release .volume { s with vom := { s.vom with state := .rejected, reason := some reason, appendPoint := none } })

/-- MOUNTED for the Volume Manager (R99). The serial and C are recorded for a rejected cartridge too. -/
def mountDone (capacity : Nat) (serial : BitVec 64) (medium : MediumKind) (s : State) : State :=
  let s := { s with vom := { s.vom with serial := some serial, capacity := some capacity } }
  match medium with
  | .other => rejectVolume .notWriteOnce s
  | .writeOnce =>
    if Config.minCapacity ≤ capacity ∧ capacity ≤ Config.maxCapacity then
      issue .findEnd .volume (s.setVol .seekingEnd)
    else rejectVolume .capacity s

/-- NO_MEDIUM for the Volume Manager (R99). -/
def mountEmpty (s : State) : State := release .volume { s with vom := VolumeRecord.unset .none }

/-- The values that a load establishes (R101, R103). -/
structure LoadValues where
  session  : Nat
  nextBsn  : Nat
  nextRsn  : Nat
  /-- D, S_D and the highest durable RSN; none on a blank volume. -/
  frontier : Option (Nat × Nat × Nat)
  deriving DecidableEq, Repr

/-- The load values of a blank volume (R101). -/
def LoadValues.blank : LoadValues := { session := 1, nextBsn := 0, nextRsn := 1, frontier := none }

/-- The load values from the best candidate of the tail read (R103). -/
def LoadValues.ofTail (c : Candidate) (highest : Nat) : LoadValues :=
  { session := highest + 1, nextBsn := c.bsn + 1, nextRsn := lastRsnOf c.firstRsn c.count + 1,
    frontier := some (c.bsn, c.slot, lastRsnOf c.firstRsn c.count) }

/-- The payload of a SESSION_START record: the session, C, the serial, two zero bytes (R8, R182). -/
def sessionPayload (session capacity : Nat) (serial : BitVec 64) : List Byte :=
  beBytes 2 session ++ beBytes 4 capacity ++ beBytes 8 serial.toNat ++ [0, 0]

/-- Every stream is CLOSED with fresh counters (R145). -/
def Claims.freshStreams (c : Claims) : Claims := { c with streams := Vector.replicate 16 StreamEntry.reset }

/-- The values of a load are set, and the next RSN and next BSN handed over (R104, step 1). -/
def State.handLoad (s : State) (v : LoadValues) : State :=
  { s with
    vom := { s.vom with
      session := some v.session, frontier := v.frontier.map fun x => x.1
      frontierSlot := v.frontier.map fun x => x.2.1, highestRsn := v.frontier.map fun x => x.2.2, lost := some 0 }
    adu := { s.adu with nextRsn := some v.nextRsn }
    pool := { s.pool with nextBsn := some v.nextBsn }
    srt := s.srt.freshStreams }

/-- The session starts (R104). -/
def startSession (v : LoadValues) (s : State) : State :=
  let c := s.vom.capacity.getD 0
  let serial := s.vom.serial.getD 0
  let s := s.handLoad v
  let s := placeNew (stampRecord s .sessionStart 255 7 false (sessionPayload v.session c serial) v.nextRsn) s
  let s := postAll Port.all (.volumeLoaded serial v.session c (s.vom.appendPoint.getD 0) v.nextRsn) s
  release .volume (recomputeR { s with vom := { s.vom with state := .ready, level := some .normal } })

/-- END_FOUND, from 0 to C, for the Volume Manager: P is set, and the volume is blank or its tail is read from slot
e − 32 on (R101, R102). DESIGN CHOICE (log entry 35): the scratch begins the tail read with an empty image; it is emptied here and
nowhere else but at part reset. -/
def endSearched (e : Nat) (s : State) : State :=
  let s := { s with vom := { s.vom with appendPoint := some e } }
  if e = 0 then startSession LoadValues.blank s
  else
    let w := e - Config.scanWindow
    issue (.seek w) .volume { s with scratch := { Scratch.reset with slot := some w } }

/-- SEEK_DONE for the Volume Manager: the tail read begins (R102). -/
def tailSeekDone (s : State) : State :=
  if s.vom.state = .seekingEnd then issue (.read (s.scratch.slot.getD 0)) .volume s else s

/-- The scratch after the read of a slot: the highest session, and the best candidate by BSN, the later slot of two with
one BSN (R102). -/
def Scratch.update (x : Scratch) (slot : Nat) : SlotClass → Scratch
  | .good h =>
    let better :=
      match x.best with
      | none => true
      | some c => decide (c.bsn ≤ h.bsn)
    { x with
      highest := some (max (x.highest.getD 0) h.session)
      best := if better then some { bsn := h.bsn, slot := slot, firstRsn := h.firstRsn, count := h.count } else x.best }
  | .blank | .bad => x

/-- The decision of the load after the last read of the window (R103). -/
def decideLoad (s : State) : State :=
  match s.scratch.best with
  | none => rejectVolume .tailUnreadable s
  | some c =>
    let highest := s.scratch.highest.getD 0
    if Config.sessionMax ≤ highest then rejectVolume .sessionLimit s
    else if lastRsnOf c.firstRsn c.count = Config.rsnEnd - 1 then rejectVolume .rsnLimit s
    else startSession (LoadValues.ofTail c highest) s

/-- The completion of a tail read: the scratch is updated, and the next slot read or the load decided (R102, R103). -/
def tailRead (slot : Nat) (cls : SlotClass) (image : Option (List Byte)) (s : State) : State :=
  if s.vom.state = .seekingEnd then
    let x := { s.scratch with image := image.getD s.scratch.image }.update slot cls
    if slot + 1 < s.vom.appendPoint.getD 0 then
      issue (.read (slot + 1)) .volume { s with scratch := { x with slot := some (slot + 1) } }
    else decideLoad { s with scratch := x }
  else s

/-! ## The end of a volume (R37, R45, R111, R114 to R116) -/

/-- The next RSN and the next BSN are unset, and the table is cleared (R37, R45, R153). -/
def clearSession (s : State) : State :=
  { s with
    adu := { s.adu with nextRsn := none }
    pool := { s.pool with nextBsn := none }
    srt := Claims.reset }

/-- The volume loss is reported: cursors fail, the table clears, the next numbers are unset (R111, step 2). -/
def volumeLost (s : State) : State := clearSession (failCursors s)

/-- A pending UNLOAD is answered, where a reply is owed (R111, R112). -/
def answerUnload (st : Status) (body : ReplyBody) (s : State) : State :=
  match s.vom.unload with
  | some u => if u.owed then reply u.port u.tag st body s else s
  | none => s

/-- The requester of a pending UNLOAD to which a reply is owed. -/
def VolumeRecord.owedTo (v : VolumeRecord) : Option Port :=
  v.unload.bind fun u => if u.owed then some u.port else none

/-- The volume is gone by its eject (R111). The cursors withdraw before the grant is released (log entry 13). -/
def finishEject (s : State) : State :=
  let v := s.vom
  let s := release .volume (volumeLost (s.setVol .none))
  let s :=
    if (v.unload.any fun u => u.faultFlag) = true then answerUnload .writeFailed .empty s
    else answerUnload .done (.rsn v.highestRsn) s
  let s := postAll (Port.all.filter fun p => v.owedTo ≠ some p) (.volumeGone .unloaded v.highestRsn 0) s
  { s with vom := VolumeRecord.unset .none }

/-- Removal in SEEKING_END, READY, DRAINING, or FAULTED with cause ATTEMPTS or NO_SPACE (R114). -/
def removeLoaded (s : State) : State :=
  let n := s.stagedRecords
  let s := volumeLost (dropStaging (refuseQueue (s.setVol .none)))
  let s := answerUnload .lost .empty (postAll Port.all (.volumeGone .removed s.vom.highestRsn n) s)
  { s with vom := VolumeRecord.unset .none }

/-- CARTRIDGE_REMOVED for the Volume Manager, by its state (R114, R115). -/
def volumeRemoved (s : State) : State :=
  match s.vom.state with
  | .none => s
  | .mounting => { s with vom := VolumeRecord.unset .none }
  | .rejected => { clearSession s with vom := VolumeRecord.unset .none }
  | .ejecting => finishEject s
  | .seekingEnd | .ready | .draining => removeLoaded s
  | .faulted => if s.vom.cause = some .drive then { s with vom := VolumeRecord.unset .none } else removeLoaded s

/-- The volume record of a volume FAULTED with cause DRIVE: the serial and the lost-record count are kept (R116, step 6),
and the rejection reason of a cartridge that was rejected (log entry 25). -/
def VolumeRecord.driveFaulted (v : VolumeRecord) : VolumeRecord :=
  { VolumeRecord.unset .faulted with cause := some .drive, reason := v.reason, serial := v.serial, lost := v.lost }

/-- The volume becomes FAULTED with cause DRIVE (R116). -/
def driveFaulted (s : State) : State :=
  let staged := s.vom.counting
  let n := s.stagedRecords
  let s := { s with vom := { s.vom with state := .faulted, cause := some .drive } }
  let s := volumeLost (if staged then dropStaging (refuseQueue s) else s)
  let s := if staged then postAll Port.all (.writeFailed .drive n) s else s
  let s := answerUnload .writeFailed .empty (postAll Port.all (.volumeGone .drive s.vom.highestRsn 0) s)
  { s with vom := s.vom.driveFaulted }

/-- A drive fault for the Volume Manager, by its state (Table 6-3). -/
def volumeDriveFault (s : State) : State :=
  match s.vom.state with
  | .none => s
  | .faulted => if s.vom.cause = some .drive then s else driveFaulted s
  | .mounting | .seekingEnd | .ready | .draining | .ejecting | .rejected => driveFaulted s

/-! ## The Medium Port's side of a removal or a drive fault (R69, R71) -/

/-- The destination of an abandoned replay read becomes FREE (R136, R137, log entry 31). -/
def freeAbandoned (s : State) : State :=
  if (s.mpt.link.any Outstanding.holdsBuffer) = true then freeBuffers 1 s else s

/-- The operation is abandoned, the head position unset, the grant and the requests withdrawn (R69, R71, Table 4-3). -/
def clearDrive (s : State) : State :=
  let s := freeAbandoned s
  { s with
    mpt := { s.mpt with link := none, timer := none, retry := false, head := none, holder := none, volumeWaits := false,
                        engineWaits := false, cursorWaits := PortSet.empty, writes := 0 }
    ape := { s.ape with yield := false } }

/-- CARTRIDGE_REMOVED on a running part (R71). -/
def cartridgeRemoved (s : State) : State := volumeRemoved (clearDrive s)

/-- DRIVE_FAULT, or an escalation to a drive fault, on a running part (R69, R71). -/
def driveFaultEvent (s : State) : State := volumeDriveFault (clearDrive s)

/-! ## UNLOAD (R108, R109) -/

/-- The checks of an UNLOAD (R108). -/
def State.unloadRefusal (s : State) (p : Port) : Option Status :=
  match s.vom.state with
  | .none => some .notReady
  | .mounting | .seekingEnd | .draining | .ejecting => some .busy
  | .faulted =>
    if s.vom.cause = some .drive then some .notReady
    else if heldByOther s.srt.volume p then some .conflict
    else if s.srt.locks.holdsOther p then some .locked
    else none
  | .ready | .rejected =>
    if heldByOther s.srt.volume p then some .conflict
    else if s.srt.locks.holdsOther p then some .locked
    else none

/-- Takes a port out of the lock set. -/
def Claims.unlock (c : Claims) (p : Port) : Claims := { c with locks := c.locks.set p false }

/-- The drain begins (R109). -/
def beginDrain (s : State) : State :=
  raise .drainCheck (raise .startCheck (sealBlock .drain (refuseQueue (s.setVol .draining))))

/-- UNLOAD (R108 to R110). -/
def unload (p : Port) (t : Tag) (s : State) : State :=
  match s.unloadRefusal p with
  | some st => reply p t st .empty s
  | none =>
    let s := { s with
      srt := s.srt.unlock p
      vom := { s.vom with unload := some { port := p, tag := t, faultFlag := false, owed := true } } }
    let s := s.setTagState p t .pending
    if s.vom.state = .ready then beginDrain s else beginEject s

end Sys2Proof.Machine
end

