-- ==== Sys2Proof/Machine/Settle.lean ====
section
/-! DEFINITION. How the functional blocks act, within one step, on the reports that reach them: first the reports raised by
a report's own handling, then those that waited behind it (log entry 5). -/

namespace Sys2Proof.Machine

open Sys2Proof

/-- The release of a port's stream reservations, volume reservation and lock (R152). -/
def Claims.releasePort (c : Claims) (p : Port) : Claims :=
  { streams := c.streams.map fun e => if e.holder = some p then { e with holder := none } else e
    volume := if c.volume = some p then none else c.volume
    locks := c.locks.set p false }

/-- Releases every claim of a port (R152). -/
def releaseClaims (p : Port) (s : State) : State := { s with srt := s.srt.releasePort p }

/-- The two wake-ups, in a free order (R55, log entry 6). -/
def wakeBoth (s : State) : State :=
  if Config.admissionWakesFirst s.choice then raise .wakeReplay (raise .wakeAdmission s.chosen)
  else raise .wakeAdmission (raise .wakeReplay s.chosen)

/-- What the addressed block does on a report. -/
def handle : Signal → State → State
  | .head => evalHead
  | .wake => wakeBoth
  | .wakeAdmission => wakeHead
  | .wakeReplay => wakeStarved
  | .arrival => engineStart
  | .startCheck => engineStart
  | .yieldRaised => engineYield
  | .yieldWithdrawn => engineSettle
  | .granted .volume => volumeGranted
  | .granted .engine => engineGranted
  | .granted (.cursor p) => cursorGranted p
  | .engineCheck => engineCheck
  | .drainCheck => drainCheck
  | .frontier => frontierMoved
  | .fillCheck p => fillCheck p
  | .releaseClaims p => releaseClaims p

/-- Acts on the first report; the reports it raises come before those that waited behind it. -/
def settleOne (g : Signal) (rest : List Signal) (s : State) : State :=
  let s' := handle g { s with signals := [] }
  { s' with signals := s'.signals ++ rest }

/-- Acts on reports until none is left, at most `n` of them (log entry 5). -/
def settle : Nat → State → State
  | 0, s => s
  | n + 1, s =>
    match s.signals with
    | [] => s
    | g :: rest => settle n (settleOne g rest s)

/-- The EJECT_INHIBIT line at the level its law gives (R118). -/
def driveInhibit (s : State) : State := { s with ejectInhibit := s.inhibitLaw }

/-- The end of a command's step: the reports it raised are acted on, and the EJECT_INHIBIT line is re-evaluated. -/
def finish (s : State) : Host.Outcome State Fault Refusal := .next (driveInhibit (settle Config.settleBound s))

end Sys2Proof.Machine
end

