-- ==== Sys2Proof/Machine/HostPorts.lean ====
section
/-! DEFINITION. The Host Port Units (Chapter 10): line activity, frame errors, the port reset, the dispatch of a request to
its owner, and the requests that are answered at once by the Stream and Reservation Table, the Control Unit and the Notice
Unit (Chapters 8, 9 and 11). -/

namespace Sys2Proof.Machine

open Sys2Proof

/-- The part runs: the start-up test has passed, and the links are enabled (R162, R178). -/
def State.running (s : State) : Bool := s.ctl.test == .running

/-- An event of a host link or of the drive is disregarded while the part does not run (R162, R178, log entry 28). -/
def whenRunning (f : State → State) (s : State) : State := if s.running then f s else s

/-! ## The link (R162, R172) -/

/-- A character received: a DOWN link becomes UP, the activity timer starts again, waiting items are placed (R162, R171).
The characters of every frame are such characters (log entry 8). -/
def hear (p : Port) (s : State) : State :=
  place p (s.setPort p { s.port p with up := true, activity := some Config.activityLimit })

/-- The frame at the head has been sent: it leaves the transmit queue, and waiting items are placed (R171, R172). -/
def frameSent (p : Port) (s : State) : State :=
  if (s.port p).up then place p (s.setPort p { s.port p with transmit := (s.port p).transmit.tail }) else s

/-! ## Port reset (R169, R170) -/

/-- The port's own part: the slots are IDLE, the transmit queue is empty, the error count is 0 (R169). -/
def HostPort.cleared (h : HostPort) : HostPort :=
  { h with errors := 0, tags := Vector.replicate 4 TagSlot.idle, transmit := [], waiting := [] }

/-- The Notice Unit's part (R161). -/
def resetNotices (p : Port) (s : State) : State :=
  let s := s.setNotices p { s.notices p with queue := [] }
  postAll (Port.all.filter fun q => q ≠ p) (.portDown (PortSet.empty.set p true)) (post p (.resetOccurred .port) s)

/-- The Volume Manager's part: a pending UNLOAD of the port loses its reply (R112, R119, log entry 14). -/
def disownUnload (p : Port) (s : State) : State :=
  { s with vom := { s.vom with
      unload := s.vom.unload.map fun u => if u.port = p then { u with owed := false } else u } }

/-- A port reset (R169, R170). Where the purge brings another head forward, a free choice says whether the port's claims are
released before or after its evaluation (R152, log entry 6). DESIGN CHOICE (log entry 36): what the reset gives rise to in other
blocks is acted on after its five parts, so behind RESET_OCCURRED and PORT_DOWN, in this order: the head brought forward with the
whole run behind it, the claims where they are released second, the client that the cursor's grant is handed to, and the wake-ups
of the cursor's buffers, with them a HELD head. -/
def portReset (p : Port) (s : State) : State :=
  let s := s.setPort p (s.port p).cleared
  let headGone := (s.adu.queue.head?.any fun e => e.port == p) && s.adu.queue.any fun e => e.port != p
  let late := headGone && !Config.claimsReleasedFirst s.choice
  let s := if headGone then s.chosen else s
  let s := purgePort p (raise .head) s
  let s := if late then raise (.releaseClaims p) s else releaseClaims p s
  resetNotices p (disownUnload p (closeCursor p false s))

/-- A frame error: the count rises, and at 8 the port is reset (R163, R164). -/
def badFrame (p : Port) (s : State) : State :=
  let n := (s.port p).errors + 1
  if Config.errorLimit ≤ n then portReset p s else s.setPort p { s.port p with errors := n }

/-- Expiry of the activity timer: the link is DOWN, and the port is reset (R162). It acts only while the timer runs (log
entry 4). -/
def linkLost (p : Port) (s : State) : State :=
  if (s.port p).activity.isSome then portReset p (s.setPort p { s.port p with up := false, activity := none }) else s

/-- A good frame sets the error count to 0 before it is handled (R164). -/
def goodFrame (p : Port) (s : State) : State := s.setPort p { s.port p with errors := 0 }

/-! ## Claims: RESERVE, RELEASE, the removal lock (R146 to R151) -/

/-- A port other than `p` holds the reservation of some stream (R147). -/
def Claims.otherStream (c : Claims) (p : Port) : Bool := c.streams.toList.any fun e => heldByOther e.holder p

/-- RESERVE of a stream (R146). -/
def reserveStream (p : Port) (t : Tag) (x : StreamId) (s : State) : State :=
  let e := s.stream x
  if s.vom.readable = false then reply p t .notReady .empty s
  else if e.isOpen = false then reply p t .noStream .empty s
  else if heldByOther s.srt.volume p then reply p t .conflict .empty s
  else if heldByOther e.holder p then reply p t .conflict .empty s
  else if e.holder = some p then replyWith p t .done .empty true false s
  else reply p t .done .empty (s.setStream x { e with holder := some p })

/-- RESERVE of the volume (R147). -/
def reserveVolume (p : Port) (t : Tag) (s : State) : State :=
  if s.vom.readable = false then reply p t .notReady .empty s
  else if heldByOther s.srt.volume p then reply p t .conflict .empty s
  else if s.srt.otherStream p then reply p t .conflict .empty s
  else if s.srt.volume = some p then replyWith p t .done .empty true false s
  else reply p t .done .empty { s with srt := { s.srt with volume := some p } }

/-- RELEASE of a stream (R148). -/
def releaseStream (p : Port) (t : Tag) (x : StreamId) (s : State) : State :=
  let e := s.stream x
  reply p t .done .empty (if e.holder = some p then s.setStream x { e with holder := none } else s)

/-- RELEASE of the volume (R148). -/
def releaseVolume (p : Port) (t : Tag) (s : State) : State :=
  reply p t .done .empty
    (if s.srt.volume = some p then { s with srt := { s.srt with volume := none } } else s)

/-- The states in which LOCK_REMOVAL is served (R150). -/
def VolumeRecord.lockable (v : VolumeRecord) : Bool := v.loaded

/-- LOCK_REMOVAL (R150). -/
def lockRemoval (p : Port) (t : Tag) (s : State) : State :=
  if s.vom.lockable then
    reply p t .done .empty { s with srt := { s.srt with locks := s.srt.locks.set p true } }
  else reply p t .notReady .empty s

/-- UNLOCK_REMOVAL (R151). -/
def unlockRemoval (p : Port) (t : Tag) (s : State) : State :=
  reply p t .done .empty { s with srt := s.srt.unlock p }

/-! ## Parameters and status (R174 to R177) -/

/-- The value of a parameter by its identifier is within its range (Table 11-1). -/
def paramInRange (id value : Nat) : Bool :=
  match id with
  | 1 => decide (1 ≤ value ∧ value ≤ 1000)
  | 2 => decide (1 ≤ value ∧ value ≤ 32)
  | 3 => decide (10 ≤ value ∧ value ≤ 2000)
  | 4 => decide (value ≤ 60000)
  | 5 => decide (64 ≤ value ∧ value ≤ 65535)
  | 6 => decide (1 ≤ value ∧ value ≤ 8)
  | 7 => decide (value ≤ 24)
  | 8 => decide (2 ≤ value ∧ value ≤ 24)
  | 9 => decide (4 ≤ value ∧ value ≤ 255)
  | _ => false

/-- Every identifier is 1 to 9, none comes twice, and every value is within its range (R174). -/
def pairsGood (pairs : List (Nat × Nat)) : Bool :=
  pairs.all (fun q => paramInRange q.1 q.2) && decide (pairs.map fun q => q.1).Nodup

/-- One pair applied (R175). -/
def Params.set (q : Params) (id value : Nat) : Params :=
  match id with
  | 1 => { q with sealDelay := value }
  | 2 => { q with startCount := value }
  | 3 => { q with startAge := value }
  | 4 => { q with holdLimit := value }
  | 5 => { q with ewReserve := value }
  | 6 => { q with readahead := value }
  | 7 => { q with replayLimit := value }
  | 8 => { q with stagingFloor := value }
  | 9 => { q with burstMax := value }
  | _ => q

/-- Every pair applied (R175). -/
def Params.apply (q : Params) (pairs : List (Nat × Nat)) : Params := pairs.foldl (fun q x => q.set x.1 x.2) q

/-- The parameters are applied in one action, and the owners whose parameters changed act (R175). -/
def applyParams (pairs : List (Nat × Nat)) (s : State) : State :=
  let new := s.params.apply pairs
  let old := s.params
  let s := { s with params := new }
  let s := if old.ewReserve ≠ new.ewReserve then evalLevel s else s
  if old.replayLimit ≠ new.replayLimit ∨ old.stagingFloor ≠ new.stagingFloor then wakeStarved s else s

/-- SET_PARAMETERS (R174, R175). -/
def setParameters (p : Port) (t : Tag) (pairs : List (Nat × Nat)) (s : State) : State :=
  if pairsGood pairs = false then reply p t .badRequest .empty s
  else if heldByOther s.srt.volume p then reply p t .conflict .empty s
  else
    let s := applyParams pairs s
    reply p t .done (.params s.params) s

/-- The snapshot of GET_STATUS for a port (R177). -/
def State.snapshot (s : State) (p : Port) : Snapshot :=
  { volume := s.vom, ejectInhibit := s.ejectInhibit, counts := s.counts, nextBsn := s.pool.nextBsn,
    nextRsn := s.adu.nextRsn, clock := s.adu.clock, claims := s.srt, cursorState := (s.cursor p).state,
    readPos := (s.cursor p).readPos, nBuffered := (s.cursor p).buffered.length,
    tags := (s.port p).tags.map fun x => x.state }

/-! ## ACK_NOTICE (R159) -/

/-- ACK_NOTICE: every entry up to the one named leaves the queue, and waiting frames of theirs are withdrawn; the DONE
carries the gate after the removal (R159). -/
def ackNotice (p : Port) (t : Tag) (k : BitVec 16) (s : State) : State :=
  let n := s.notices p
  match n.queue.findIdx? fun e => e.number == k with
  | none => reply p t .badRequest .empty s
  | some i =>
    let s := (s.setPort p ((s.port p).withdraw (n.queue.take (i + 1)))).setNotices p
      { n with queue := n.queue.drop (i + 1) }
    let s := place p s
    reply p t .done (.gate (s.gateClosed p)) s

/-! ## Dispatch (R166) -/

/-- The request goes to its owner (R166, step 4). -/
def serve (p : Port) (t : Tag) (r : Request) (s : State) : State :=
  match r with
  | .writing w => joinQueue p t w s
  | .reserve (.stream x) => reserveStream p t x s
  | .reserve .volume => reserveVolume p t s
  | .release (.stream x) => releaseStream p t x s
  | .release .volume => releaseVolume p t s
  | .lockRemoval => lockRemoval p t s
  | .unlockRemoval => unlockRemoval p t s
  | .unload => unload p t s
  | .replayOpen st f => replayOpen p t st f s
  | .replayNext => replayNext p t s
  | .replayClose => replayClose p t s
  | .setParameters pairs => setParameters p t pairs s
  | .getParameters => reply p t .done (.params s.params) s
  | .getStatus => reply p t .done (.status (s.snapshot p)) s
  | .ackNotice k => ackNotice p t k s

/-- The dispatch of a good REQUEST frame: kind check, field checks, gate check, hand-over (R166). -/
def dispatch (p : Port) (t : Tag) (kind : Byte) (payload : List Byte) (s : State) : State :=
  let s := s.setSlot p t
    { state := .dispatching, frame := some { kind := kind, payload := payload }, rsn := none, reply := none }
  match parseRequest kind.toNat payload with
  | none => reply p t .badRequest .empty s
  | some r => if r.gated = true ∧ s.gateClosed p = true then reply p t .attention .empty s else serve p t r s

/-- A REQUEST frame is taken: one for a tag that is not IDLE, or with more than 2,040 payload bytes, is a frame error (R163,
R166). -/
def takeRequest (p : Port) (t : Tag) (kind : Byte) (payload : List Byte) : State → State :=
  whenRunning fun s =>
    let s := hear p s
    if (s.slot p t).state ≠ .idle ∨ Config.maxPayload < payload.length then badFrame p s
    else dispatch p t kind payload (goodFrame p s)

/-- A good ABORT frame, by the state of its tag (R168). -/
def takeAbort (p : Port) (t : Tag) (s : State) : State :=
  match (s.slot p t).state with
  | .queued => refuseEntry p t .aborted s
  | .waitingDurable => abortWaiter p t s
  | .pending => if (s.cursor p).next = some t then abortNext p t s else s
  | .idle | .replying | .dispatching => s

end Sys2Proof.Machine
end

