-- ==== Sys2Proof/Machine/StartUp.lean ====
section
/-! DEFINITION. Part reset and the start-up test (R178, R179), with the meanings of the four commands that drive them. -/

namespace Sys2Proof.Machine

open Sys2Proof

/-- Changes the Control Unit's test state and the TEST lines. -/
def State.setTest (s : State) (st : TestState) (lines : BitVec 4) : State :=
  { s with ctl := { s.ctl with test := st, testLines := lines } }

/-- A phase fails: the part halts with FAULT asserted, and TEST goes on showing the phase (R178). -/
def haltTest (s : State) : State := { s with ctl := { s.ctl with test := .halted, faultLine := true } }

/-- The Control Unit asks for the MOUNT of the medium link check (R59, R179). -/
def checkMount (s : State) : State := issue .mount .control s

/-- A cartridge is noted as present (R179). -/
def noteCartridge (s : State) : State := { s with ctl := { s.ctl with cartridgeNoted := true } }

/-- The four links are enabled, and waiting notices placed (R162, R179). -/
def enableLinks (s : State) : State := Port.all.foldl (fun s p => hear p s) s

/-- Phase 3 passes (R179): TEST shows 0, the Volume Manager is told, RESET_OCCURRED is posted, the links are enabled. -/
def startUpPass (present : Bool) (s : State) : State :=
  let s := if present then noteCartridge s else s
  let s := s.setTest .running 0
  let s := if s.ctl.cartridgeNoted then beginMount s else s
  enableLinks (postAll Port.all (.resetOccurred .part) s)

/-- RESET_N asserted: every block takes its part-reset values (R178, log entry 3). -/
def partReset (s : State) : State := { State.reset with pending := s.pending, choice := s.choice }

/-- RESET_N released: the start-up test begins (R178). -/
def releaseReset (s : State) : State :=
  if s.ctl.test = .held then
    { s.setTest .phase1 1 with ctl := { (s.setTest .phase1 1).ctl with resetAsserted := false } }
  else s

/-- The end of phase 1 (R178). -/
def endPhase1 (pass : Bool) (s : State) : State :=
  if s.ctl.test = .phase1 then if pass then s.setTest .phase2 2 else haltTest s else s

/-- The end of phase 2: phase 3 begins with its MOUNT (R178, R179). -/
def endPhase2 (pass : Bool) (s : State) : State :=
  if s.ctl.test = .phase2 then if pass then checkMount (s.setTest .phase3 3) else haltTest s else s

/-- CARTRIDGE_REMOVED in phase 3: the MOUNT is abandoned and asked for again (R71, R179). -/
def removedInTest (s : State) : State := checkMount (clearDrive s)

/-- DRIVE_FAULT in phase 3: the MOUNT is abandoned and the phase fails (R71, R179). -/
def faultInTest (s : State) : State := haltTest (clearDrive s)

/-- RESET_N_ASSERTED. -/
def execResetNAsserted (s : State) : Host.Outcome State Fault Refusal := finish (partReset s)

/-- RESET_N_RELEASED. -/
def execResetNReleased (s : State) : Host.Outcome State Fault Refusal := finish (releaseReset s)

/-- BUFFER_MEMORY_TEST_END. -/
def execBufferMemoryTestEnd (pass : Bool) (s : State) : Host.Outcome State Fault Refusal := finish (endPhase1 pass s)

/-- TABLE_MEMORY_TEST_END. -/
def execTableMemoryTestEnd (pass : Bool) (s : State) : Host.Outcome State Fault Refusal := finish (endPhase2 pass s)

end Sys2Proof.Machine
end

