-- ==== Sys2Proof/Machine/DriveCompletions.lean ====
section
/-! DEFINITION. The meanings of the completions from the drive (R60 to R69): accepted by number and kind, the head position
updated (Table 4-2), then handed to the issuing client or escalated to a drive fault. -/

namespace Sys2Proof.Machine

open Sys2Proof

/-- A completion: discarded where it is not accepted; else the operation ends, the head position is set, the client acts,
and a hand-over that waited for the link takes place (R60, R67, R72). DESIGN CHOICE (log entry 39): where the end of a closed
cursor's read frees its buffer, the wake-ups are acted on before the client that the hand-over chooses acts. -/
def completion (number : Byte) (kind : DriveOp → Bool) (head : Outstanding → Option Nat)
    (act : Outstanding → State → State) (s : State) : State :=
  match s.accepted number kind with
  | none => s
  | some o => handOver (act o (endOperation (head o) s))

def DriveOp.isMount : DriveOp → Bool
  | .mount => true
  | _ => false

def DriveOp.isFindEnd : DriveOp → Bool
  | .findEnd => true
  | _ => false

def DriveOp.isSeek : DriveOp → Bool
  | .seek _ => true
  | _ => false

def DriveOp.isWrite : DriveOp → Bool
  | .write _ _ => true
  | _ => false

def DriveOp.isRead : DriveOp → Bool
  | .read _ => true
  | _ => false

def DriveOp.isEject : DriveOp → Bool
  | .eject => true
  | _ => false

/-- The slot an operation names; 0 for one that names none. -/
def DriveOp.slot : DriveOp → Nat
  | .mount => 0
  | .findEnd => 0
  | .seek n => n
  | .write n _ => n
  | .read n => n
  | .eject => 0

/-- The completion of a MOUNT: for the medium link check it says whether a cartridge is present (R61, R179). -/
def mountAnswer (present : Bool) (act : State → State) (o : Outstanding) (s : State) : State :=
  match o.issuer with
  | .control => startUpPass present s
  | .volume => act s
  | .engine | .cursor _ | .closedCursor _ => s

/-- The completion of a SEEK goes to its client; for a closed cursor it is discarded (R63, R136). -/
def seekAnswer (o : Outstanding) (s : State) : State :=
  match o.issuer with
  | .volume => tailSeekDone s
  | .engine => engineSeekDone s
  | .cursor p => fillStep p s
  | .control | .closedCursor _ => s

/-- The completion of a read goes to its client; for a closed cursor the destination becomes FREE (R65, R136). -/
def readAnswer (cls : SlotClass) (image : Option (List Byte)) (o : Outstanding) (s : State) : State :=
  match o.issuer with
  | .volume => tailRead o.op.slot cls image s
  | .cursor p => cursorRead p o.op.slot cls (image.getD []) s
  | .closedCursor _ => freeBuffers 1 s
  | .control | .engine => s

/-- An accepted error completion that is escalated to a drive fault (R69). -/
def escalate (number : Byte) (kind : DriveOp → Bool) (s : State) : State :=
  completion number kind (fun _ => none) (fun _ => driveFaultEvent) s

/-- END_FOUND is compared with C (R62). -/
def endWithin (e : Nat) (s : State) : Bool := decide (e ≤ s.vom.capacity.getD 0)

/-- MOUNTED (R61, R99, R179). -/
def execMounted (op : Byte) (capacity : BitVec 32) (serial : BitVec 64) (medium : MediumKind) (s : State) :
    Host.Outcome State Fault Refusal :=
  finish (completion op DriveOp.isMount (fun _ => some 0)
    (mountAnswer true (mountDone capacity.toNat serial medium)) s)

/-- NO_MEDIUM (R61, R99, R179). -/
def execNoMedium (op : Byte) (s : State) : Host.Outcome State Fault Refusal :=
  finish (completion op DriveOp.isMount (fun _ => none) (mountAnswer false mountEmpty) s)

/-- MOUNT_ERROR (R61, R99, R179). -/
def execMountError (op : Byte) (s : State) : Host.Outcome State Fault Refusal :=
  finish (completion op DriveOp.isMount (fun _ => none) (mountAnswer true (rejectVolume .mountError)) s)

/-- END_FOUND (R62, R101). -/
def execEndFound (op : Byte) (e : BitVec 32) (s : State) : Host.Outcome State Fault Refusal :=
  if endWithin e.toNat s then
    finish (completion op DriveOp.isFindEnd (fun _ => some e.toNat) (fun _ => endSearched e.toNat) s)
  else finish (escalate op DriveOp.isFindEnd s)

/-- END_ERROR (R62, R69). -/
def execEndError (op : Byte) (s : State) : Host.Outcome State Fault Refusal :=
  finish (escalate op DriveOp.isFindEnd s)

/-- SEEK_DONE (R63). -/
def execSeekDone (op : Byte) (s : State) : Host.Outcome State Fault Refusal :=
  finish (completion op DriveOp.isSeek (fun o => some o.op.slot) seekAnswer s)

/-- SEEK_ERROR (R63, R69). -/
def execSeekError (op : Byte) (s : State) : Host.Outcome State Fault Refusal :=
  finish (escalate op DriveOp.isSeek s)

/-- WRITTEN (R64, R81, R83). -/
def execWritten (op : Byte) (s : State) : Host.Outcome State Fault Refusal :=
  finish (completion op DriveOp.isWrite (fun o => some (o.op.slot + 1)) (fun _ => writeEnded true) s)

/-- WRITE_ERROR (R64, R82, R83). -/
def execWriteError (op : Byte) (s : State) : Host.Outcome State Fault Refusal :=
  finish (completion op DriveOp.isWrite (fun _ => none) (fun _ => writeEnded false) s)

/-- READ_DONE with the bytes read (R7, R65). -/
def execReadDone (op : Byte) (bytes : List Byte) (s : State) : Host.Outcome State Fault Refusal :=
  finish (completion op DriveOp.isRead (fun o => some (o.op.slot + 1)) (readAnswer (classify bytes) (some bytes)) s)

/-- BLANK (R7, R65). -/
def execBlank (op : Byte) (s : State) : Host.Outcome State Fault Refusal :=
  finish (completion op DriveOp.isRead (fun o => some (o.op.slot + 1)) (readAnswer .blank none) s)

/-- READ_ERROR (R7, R65). -/
def execReadError (op : Byte) (s : State) : Host.Outcome State Fault Refusal :=
  finish (completion op DriveOp.isRead (fun o => some (o.op.slot + 1)) (readAnswer .bad none) s)

/-- EJECTED (R66, R111). -/
def execEjected (op : Byte) (s : State) : Host.Outcome State Fault Refusal :=
  finish (completion op DriveOp.isEject (fun _ => none) (fun _ => finishEject) s)

/-- EJECT_ERROR (R66, R69). -/
def execEjectError (op : Byte) (s : State) : Host.Outcome State Fault Refusal :=
  finish (escalate op DriveOp.isEject s)

end Sys2Proof.Machine
end

