-- ==== Sys2Proof/Machine/DriveReports.lean ====
section
/-! DEFINITION. The meanings of the drive's own reports (R60, R70, R71), in a running part and in the start-up test. -/

namespace Sys2Proof.Machine

open Sys2Proof

/-- A report acts on a running part, or in phase 3 of the test; else it is disregarded (R178, R179). -/
def byMode (running phase3 : State → State) (s : State) : State :=
  match s.ctl.test with
  | .running => running s
  | .phase3 => phase3 s
  | .held | .phase1 | .phase2 | .halted => s

/-- CARTRIDGE_INSERTED for the Volume Manager (R98). -/
def cartridgeInserted (s : State) : State := if s.vom.state = .none then beginMount s else s

/-- VERIFY_RESULT (R70, R84). -/
def execVerifyResult (slot : BitVec 32) (pass : Bool) (s : State) : Host.Outcome State Fault Refusal :=
  finish (byMode (verifyReport slot.toNat pass) id s)

/-- CARTRIDGE_INSERTED (R70, R98, R179). -/
def execCartridgeInserted (s : State) : Host.Outcome State Fault Refusal :=
  finish (byMode cartridgeInserted noteCartridge s)

/-- CARTRIDGE_REMOVED (R71, R114, R115, R179). -/
def execCartridgeRemoved (s : State) : Host.Outcome State Fault Refusal :=
  finish (byMode cartridgeRemoved removedInTest s)

/-- DRIVE_FAULT (R71, R116, R179). -/
def execDriveFault (s : State) : Host.Outcome State Fault Refusal := finish (byMode driveFaultEvent faultInTest s)

/-- DRIVE_MESSAGE_CORRUPT: the message is discarded (R60). -/
def execDriveMessageCorrupt (s : State) : Host.Outcome State Fault Refusal := finish s

end Sys2Proof.Machine
end

