-- ==== Sys2Proof/Machine/HostLink.lean ====
section
/-! DEFINITION. The meanings of the other events of a host link: ABORT and PORT_RESET frames, frame errors, characters, the
activity timer, the end of a transmission (R162 to R172). -/

namespace Sys2Proof.Machine

open Sys2Proof

/-- ABORT (R168). -/
def execAbort (p : Port) (t : Tag) (s : State) : Host.Outcome State Fault Refusal :=
  finish (whenRunning (fun s => takeAbort p t (goodFrame p (hear p s))) s)

/-- PORT_RESET (R169). -/
def execPortReset (p : Port) (s : State) : Host.Outcome State Fault Refusal :=
  finish (whenRunning (fun s => portReset p (goodFrame p (hear p s))) s)

/-- FRAME_ERROR (R163, R164). -/
def execFrameError (p : Port) (s : State) : Host.Outcome State Fault Refusal :=
  finish (whenRunning (fun s => badFrame p (hear p s)) s)

/-- A frame error that brings the count to 8 (R164). Where the count does not stand at 7 no frame error can, and the
command is disregarded (log entry 9). -/
def frameLimit (p : Port) (s : State) : State :=
  if Config.errorLimit ≤ (s.port p).errors + 1 then badFrame p (hear p s) else s

/-- FRAME_ERROR_LIMIT (R164). -/
def execFrameErrorLimit (p : Port) (s : State) : Host.Outcome State Fault Refusal :=
  finish (whenRunning (frameLimit p) s)

/-- CHARACTER_RECEIVED (R162). -/
def execCharacterReceived (p : Port) (s : State) : Host.Outcome State Fault Refusal :=
  finish (whenRunning (hear p) s)

/-- ACTIVITY_TIMER_EXPIRY (R162). -/
def execActivityTimerExpiry (p : Port) (s : State) : Host.Outcome State Fault Refusal :=
  finish (whenRunning (linkLost p) s)

/-- FRAME_TRANSMITTED (R172). -/
def execFrameTransmitted (p : Port) (s : State) : Host.Outcome State Fault Refusal :=
  finish (whenRunning (frameSent p) s)

end Sys2Proof.Machine
end

