-- ==== Sys2Proof/Machine/HostRequests.lean ====
section
/-! DEFINITION. The meanings of the REQUEST frames: each is taken at its port with its kind number of Table 10-2 (R163,
R166, R181); the owner's rules stand in the operations that `serve` calls. -/

namespace Sys2Proof.Machine

open Sys2Proof

/-- APPEND (R16, R19 to R24). -/
def execAppend (p : Port) (t : Tag) (payload : List Byte) (s : State) : Host.Outcome State Fault Refusal :=
  finish (takeRequest p t 1 payload s)

/-- SYNC (R16, R28). -/
def execSync (p : Port) (t : Tag) (payload : List Byte) (s : State) : Host.Outcome State Fault Refusal :=
  finish (takeRequest p t 2 payload s)

/-- SET_CLOCK (R16, R31). -/
def execSetClock (p : Port) (t : Tag) (payload : List Byte) (s : State) : Host.Outcome State Fault Refusal :=
  finish (takeRequest p t 3 payload s)

/-- OPEN_STREAM (R16, R32). -/
def execOpenStream (p : Port) (t : Tag) (payload : List Byte) (s : State) : Host.Outcome State Fault Refusal :=
  finish (takeRequest p t 4 payload s)

/-- CLOSE_STREAM (R16, R33). -/
def execCloseStream (p : Port) (t : Tag) (payload : List Byte) (s : State) : Host.Outcome State Fault Refusal :=
  finish (takeRequest p t 5 payload s)

/-- RESERVE of a stream (R146). -/
def execReserveStream (p : Port) (t : Tag) (payload : List Byte) (s : State) : Host.Outcome State Fault Refusal :=
  finish (takeRequest p t 6 payload s)

/-- RESERVE of the volume: its payload is the byte 255 (R147, R181). -/
def execReserveVolume (p : Port) (t : Tag) (s : State) : Host.Outcome State Fault Refusal :=
  finish (takeRequest p t 6 [255] s)

/-- RELEASE of a stream (R148). -/
def execReleaseStream (p : Port) (t : Tag) (payload : List Byte) (s : State) : Host.Outcome State Fault Refusal :=
  finish (takeRequest p t 7 payload s)

/-- RELEASE of the volume: its payload is the byte 255 (R148, R181). -/
def execReleaseVolume (p : Port) (t : Tag) (s : State) : Host.Outcome State Fault Refusal :=
  finish (takeRequest p t 7 [255] s)

/-- LOCK_REMOVAL (R150). -/
def execLockRemoval (p : Port) (t : Tag) (payload : List Byte) (s : State) : Host.Outcome State Fault Refusal :=
  finish (takeRequest p t 8 payload s)

/-- UNLOCK_REMOVAL (R151). -/
def execUnlockRemoval (p : Port) (t : Tag) (payload : List Byte) (s : State) : Host.Outcome State Fault Refusal :=
  finish (takeRequest p t 9 payload s)

/-- UNLOAD (R108 to R110). -/
def execUnload (p : Port) (t : Tag) (payload : List Byte) (s : State) : Host.Outcome State Fault Refusal :=
  finish (takeRequest p t 10 payload s)

/-- REPLAY_OPEN (R122, R123). -/
def execReplayOpen (p : Port) (t : Tag) (payload : List Byte) (s : State) : Host.Outcome State Fault Refusal :=
  finish (takeRequest p t 11 payload s)

/-- REPLAY_NEXT (R132). -/
def execReplayNext (p : Port) (t : Tag) (payload : List Byte) (s : State) : Host.Outcome State Fault Refusal :=
  finish (takeRequest p t 12 payload s)

/-- REPLAY_CLOSE (R135). -/
def execReplayClose (p : Port) (t : Tag) (payload : List Byte) (s : State) : Host.Outcome State Fault Refusal :=
  finish (takeRequest p t 13 payload s)

/-- SET_PARAMETERS (R174, R175). -/
def execSetParameters (p : Port) (t : Tag) (payload : List Byte) (s : State) : Host.Outcome State Fault Refusal :=
  finish (takeRequest p t 14 payload s)

/-- GET_PARAMETERS (R176). -/
def execGetParameters (p : Port) (t : Tag) (payload : List Byte) (s : State) : Host.Outcome State Fault Refusal :=
  finish (takeRequest p t 15 payload s)

/-- GET_STATUS (R177). -/
def execGetStatus (p : Port) (t : Tag) (payload : List Byte) (s : State) : Host.Outcome State Fault Refusal :=
  finish (takeRequest p t 16 payload s)

/-- ACK_NOTICE (R159). -/
def execAckNotice (p : Port) (t : Tag) (payload : List Byte) (s : State) : Host.Outcome State Fault Refusal :=
  finish (takeRequest p t 17 payload s)

/-- A REQUEST whose kind is none of Table 10-2 (R166, step 1). -/
def execUnknownRequestKind (p : Port) (t : Tag) (kind : Byte) (payload : List Byte) (s : State) :
    Host.Outcome State Fault Refusal :=
  finish (takeRequest p t kind payload s)

end Sys2Proof.Machine
end

