-- ==== Sys2Proof/Machine/Timers.lean ====
section
/-! DEFINITION. The meanings of the timers' expiries and of the journal clock's tick. An expiry acts only while its timer
runs (log entry 4). -/

namespace Sys2Proof.Machine

open Sys2Proof

/-- A retry: the same operation under a new number, with the retry flag set (R68). -/
def retryOperation (o : Outstanding) (s : State) : State := { s with mpt := s.mpt.send o.op o.issuer true }

/-- Expiry of the operation timer (R64, R68, R69; R61, R179 for the medium link check). -/
def operationExpired (s : State) : State :=
  match s.mpt.timer, s.mpt.link with
  | some _, some o =>
    match o.op with
    | .write _ _ => handOver (writeEnded false (endOperation none s))
    | .mount | .findEnd | .seek _ | .read _ | .eject =>
      if o.issuer = .control then haltTest (endOperation none s)
      else if s.mpt.retry then driveFaultEvent s
      else retryOperation o s
  | _, _ => s

/-- Expiry of the seal timer (R43). -/
def sealExpired (s : State) : State :=
  if (s.pool.opened.bind fun o => o.sealTimer).isSome then sealBlock .timer s else s

/-- OPERATION_TIMER_EXPIRY (R68). -/
def execOperationTimerExpiry (s : State) : Host.Outcome State Fault Refusal := finish (operationExpired s)

/-- SEAL_TIMER_EXPIRY (R43). -/
def execSealTimerExpiry (s : State) : Host.Outcome State Fault Refusal := finish (sealExpired s)

/-- START_AGE_EXPIRY of the block of a BSN (R49). -/
def execStartAgeExpiry (bsn : Nat) (s : State) : Host.Outcome State Fault Refusal := finish (startAgeExpired bsn s)

/-- DEADLINE_EXPIRY of the entry of a port and a tag (R26). -/
def execDeadlineExpiry (p : Port) (t : Tag) (s : State) : Host.Outcome State Fault Refusal :=
  finish (deadlineExpired p t s)

/-- VERIFY_TIMER_EXPIRY of the entry for a slot (R87). -/
def execVerifyTimerExpiry (slot : Nat) (s : State) : Host.Outcome State Fault Refusal := finish (verifyExpired slot s)

/-- JOURNAL_CLOCK_TICK (R30). -/
def execJournalClockTick (s : State) : Host.Outcome State Fault Refusal := finish (tickClock s)

end Sys2Proof.Machine
end

