-- ==== Sys2Proof/Machine/Dispatch.lean ====
section
/-! DEFINITION. One arm for each command: the direct call of its meaning. -/

namespace Sys2Proof.Machine

open Sys2Proof

def exec (i : Instr) (s : State) : Host.Outcome State Fault Refusal :=
  match i with
  | .append p t payload => Sys2Proof.Machine.execAppend p t payload s
  | .sync p t payload => Sys2Proof.Machine.execSync p t payload s
  | .setClock p t payload => Sys2Proof.Machine.execSetClock p t payload s
  | .openStream p t payload => Sys2Proof.Machine.execOpenStream p t payload s
  | .closeStream p t payload => Sys2Proof.Machine.execCloseStream p t payload s
  | .reserveStream p t payload => Sys2Proof.Machine.execReserveStream p t payload s
  | .reserveVolume p t => Sys2Proof.Machine.execReserveVolume p t s
  | .releaseStream p t payload => Sys2Proof.Machine.execReleaseStream p t payload s
  | .releaseVolume p t => Sys2Proof.Machine.execReleaseVolume p t s
  | .lockRemoval p t payload => Sys2Proof.Machine.execLockRemoval p t payload s
  | .unlockRemoval p t payload => Sys2Proof.Machine.execUnlockRemoval p t payload s
  | .unload p t payload => Sys2Proof.Machine.execUnload p t payload s
  | .replayOpen p t payload => Sys2Proof.Machine.execReplayOpen p t payload s
  | .replayNext p t payload => Sys2Proof.Machine.execReplayNext p t payload s
  | .replayClose p t payload => Sys2Proof.Machine.execReplayClose p t payload s
  | .setParameters p t payload => Sys2Proof.Machine.execSetParameters p t payload s
  | .getParameters p t payload => Sys2Proof.Machine.execGetParameters p t payload s
  | .getStatus p t payload => Sys2Proof.Machine.execGetStatus p t payload s
  | .ackNotice p t payload => Sys2Proof.Machine.execAckNotice p t payload s
  | .unknownRequestKind p t kind payload => Sys2Proof.Machine.execUnknownRequestKind p t kind payload s
  | .abort p t => Sys2Proof.Machine.execAbort p t s
  | .portReset p => Sys2Proof.Machine.execPortReset p s
  | .frameError p => Sys2Proof.Machine.execFrameError p s
  | .frameErrorLimit p => Sys2Proof.Machine.execFrameErrorLimit p s
  | .characterReceived p => Sys2Proof.Machine.execCharacterReceived p s
  | .activityTimerExpiry p => Sys2Proof.Machine.execActivityTimerExpiry p s
  | .frameTransmitted p => Sys2Proof.Machine.execFrameTransmitted p s
  | .mounted op capacity serial medium => Sys2Proof.Machine.execMounted op capacity serial medium s
  | .noMedium op => Sys2Proof.Machine.execNoMedium op s
  | .mountError op => Sys2Proof.Machine.execMountError op s
  | .endFound op e => Sys2Proof.Machine.execEndFound op e s
  | .endError op => Sys2Proof.Machine.execEndError op s
  | .seekDone op => Sys2Proof.Machine.execSeekDone op s
  | .seekError op => Sys2Proof.Machine.execSeekError op s
  | .written op => Sys2Proof.Machine.execWritten op s
  | .writeError op => Sys2Proof.Machine.execWriteError op s
  | .readDone op bytes => Sys2Proof.Machine.execReadDone op bytes s
  | .blank op => Sys2Proof.Machine.execBlank op s
  | .readError op => Sys2Proof.Machine.execReadError op s
  | .ejected op => Sys2Proof.Machine.execEjected op s
  | .ejectError op => Sys2Proof.Machine.execEjectError op s
  | .verifyResult slot pass => Sys2Proof.Machine.execVerifyResult slot pass s
  | .cartridgeInserted => Sys2Proof.Machine.execCartridgeInserted s
  | .cartridgeRemoved => Sys2Proof.Machine.execCartridgeRemoved s
  | .driveFault => Sys2Proof.Machine.execDriveFault s
  | .driveMessageCorrupt => Sys2Proof.Machine.execDriveMessageCorrupt s
  | .operationTimerExpiry => Sys2Proof.Machine.execOperationTimerExpiry s
  | .sealTimerExpiry => Sys2Proof.Machine.execSealTimerExpiry s
  | .startAgeExpiry bsn => Sys2Proof.Machine.execStartAgeExpiry bsn s
  | .deadlineExpiry p t => Sys2Proof.Machine.execDeadlineExpiry p t s
  | .verifyTimerExpiry slot => Sys2Proof.Machine.execVerifyTimerExpiry slot s
  | .resetNAsserted => Sys2Proof.Machine.execResetNAsserted s
  | .resetNReleased => Sys2Proof.Machine.execResetNReleased s
  | .bufferMemoryTestEnd pass => Sys2Proof.Machine.execBufferMemoryTestEnd pass s
  | .tableMemoryTestEnd pass => Sys2Proof.Machine.execTableMemoryTestEnd pass s
  | .journalClockTick => Sys2Proof.Machine.execJournalClockTick s

end Sys2Proof.Machine
end

