-- ==== Sys2Proof/Safety.lean ====
section
/-! DEFINITION. What the statements are written with: the laws of the device as predicates of a state, the premises under
which a command's effect is stated (nothing left over from an earlier step, a free tag, room for a reply), and what a host
port holds after it has taken a frame or sent a reply. -/

namespace Sys2Proof.Machine

open Sys2Proof

/-! ## The laws of the device -/

/-- The sum of the buffer counts (R39). -/
def State.bufferTotal (s : State) : Nat :=
  s.counts.free + s.counts.opened + s.counts.sealed + s.counts.inWrite + s.counts.unverified + s.counts.replay

/-- A CLOSED or FAILED cursor is IDLE, buffers nothing and has no operation of its own outstanding (R120, R135, R137). -/
def State.cursorRests (s : State) (p : Port) : Prop :=
  (s.cursor p).state = .closed ∨ (s.cursor p).state = .failed →
    (s.cursor p).phase = .idle ∧ (s.cursor p).buffered = [] ∧ ∀ o, s.mpt.link = some o → o.issuer ≠ .cursor p

/-- The 48 buffers are divided exactly among the six states of Table 3-1 (R39); and a resting cursor has no part in them. -/
def BuffersKept (s : State) : Prop := s.bufferTotal = 48 ∧ ∀ p, s.cursorRests p

/-- IN_WRITE and UNVERIFIED together are never more than 3 (R39, R76). -/
def WritesBounded (s : State) : Prop := s.ape.inWrite.toList.length + s.ape.unverified.length ≤ 3

/-- A transmit queue holds at most 12 frames (R171). -/
def TransmitBounded (s : State) : Prop := ∀ p, (s.port p).transmit.length ≤ 12

/-- While a link is up, an item waits to be placed only for want of room in the transmit queue (R171). -/
def PlacedAtOnce (s : State) : Prop :=
  ∀ p, (s.port p).up = true → (s.port p).waiting ≠ [] → Config.transmitLimit ≤ (s.port p).transmit.length

/-- No notice queue holds two entries of one kind, or two of one number (R154, R156). -/
def NoticesDistinct (s : State) : Prop :=
  ∀ p, ((s.notices p).queue.map fun e => e.body.code).Nodup ∧ ((s.notices p).queue.map fun e => e.number).Nodup

/-- Every parameter is within the range of Table 11-1. -/
def Params.inRange (q : Params) : Prop :=
  (1 ≤ q.sealDelay ∧ q.sealDelay ≤ 1000) ∧ (1 ≤ q.startCount ∧ q.startCount ≤ 32) ∧
  (10 ≤ q.startAge ∧ q.startAge ≤ 2000) ∧ q.holdLimit ≤ 60000 ∧ (64 ≤ q.ewReserve ∧ q.ewReserve ≤ 65535) ∧
  (1 ≤ q.readahead ∧ q.readahead ≤ 8) ∧ q.replayLimit ≤ 24 ∧ (2 ≤ q.stagingFloor ∧ q.stagingFloor ≤ 24) ∧
  (4 ≤ q.burstMax ∧ q.burstMax ≤ 255)

/-- The value of a parameter by its identifier (Table 11-1). -/
def Params.value (q : Params) (id : Nat) : Option Nat :=
  [q.sealDelay, q.startCount, q.startAge, q.holdLimit, q.ewReserve, q.readahead, q.replayLimit, q.stagingFloor,
    q.burstMax][id - 1]?

/-- The consecutive-error count of every port is below 8 (R164). -/
def ErrorsBelow (s : State) : Prop := ∀ p, (s.port p).errors < 8

/-- A set clock, and every clock value that waits in the admission queue, is at most 2^48 − 1 (R30). -/
def ClockBounded (s : State) : Prop :=
  (∀ v, s.adu.clock = some v → v ≤ Config.clockMax) ∧
    ∀ e ∈ s.adu.queue, ∀ v, e.request = .setClock v → v ≤ Config.clockMax

/-- The EJECT_INHIBIT line is asserted exactly as its law says (R118). -/
def LineLawful (s : State) : Prop :=
  s.ejectInhibit = true ↔
    (s.vom.state = .seekingEnd ∨ s.vom.state = .ready ∨ s.vom.state = .draining ∨ s.vom.state = .faulted) ∧
      ((∃ p : Port, s.srt.locks[p] = true) ∨
        s.pool.opened ≠ none ∨ s.pool.sealed ≠ [] ∨ s.ape.inWrite ≠ none ∨ s.ape.unverified ≠ [])

/-! ## Premises -/

/-- The part runs, and no report is left over from an earlier step (log entry 5). -/
abbrev Running (s : State) : Prop := s.ctl.test = .running ∧ s.signals = []

/-- The part runs, and nothing waits to be placed at a port. -/
abbrev Clear (s : State) (p : Port) : Prop := Running s ∧ (s.port p).waiting = []

/-- A port can take a request under a tag and place its reply at once: the tag is IDLE, nothing waits to be placed, and the
transmit queue has room. -/
abbrev Ready (s : State) (p : Port) (t : Tag) : Prop :=
  Clear s p ∧ (s.slot p t).state = .idle ∧ (s.port p).transmit.length < 12

/-- No notice of a gating kind stands in a port's queue (R160). -/
abbrev GateOpen (s : State) (p : Port) : Prop := ∀ e ∈ (s.notices p).queue, e.body.gating = false

/-- A reply to a request that waits can be placed at once: its tag holds the request, the link is up, nothing waits to be
placed, and the transmit queue has room. -/
abbrev CanReply (s : State) (p : Port) (t : Tag) : Prop :=
  (s.slot p t).state ≠ .idle ∧ (s.port p).up = true ∧ (s.port p).waiting = [] ∧ (s.port p).transmit.length < 12

/-- A wake-up of the pool finds nothing to do: no entry waits for admission, and no cursor is STARVED. -/
abbrev NoneWaits (s : State) : Prop := s.adu.queue = [] ∧ ∀ p, (s.cursor p).phase ≠ .starved

/-- The Append Engine is in the middle of a write and is not asked to yield: arrivals and start events leave it alone. -/
abbrev MidWrite (s : State) : Prop := s.ape.state = .running ∧ s.ape.inWrite ≠ none ∧ s.ape.yield = false

/-- No client waits for the grant. -/
abbrev NoneAsks (s : State) : Prop :=
  s.mpt.volumeWaits = false ∧ s.mpt.engineWaits = false ∧ ∀ p : Port, s.mpt.cursorWaits[p] = false

/-- R stands at its definition (R13, R105). -/
abbrev RemainingIs (s : State) (r : Int) : Prop := s.vom.remaining = some r ∧ s.remainingNow = some r

/-- A change of R to this value leaves the capacity level as it is (R106). -/
abbrev LevelStays (s : State) (r : Int) : Prop :=
  32 < r ∧ (s.vom.level = some .normal → (s.params.ewReserve : Int) < r)

/-- A port other than p holds neither the volume nor the stream (R19). -/
abbrev Unclaimed (s : State) (p : Port) (x : StreamId) : Prop :=
  ∀ q, q ≠ p → s.srt.volume ≠ some q ∧ (s.stream x).holder ≠ some q

/-- A writing request under a tag that comes straight to the head of the admission queue of a READY volume: the port can take
it and answer it, its gate is open, and the queue is empty. -/
abbrev AtHead (s : State) (p : Port) (t : Tag) : Prop :=
  Ready s p t ∧ GateOpen s p ∧ s.adu.queue = [] ∧ s.vom.state = .ready

/-- The space tests refuse a record of this footprint: a new block is needed and R − 1 is below the margin, or the record has its
place and no RSN is left for it (R20, R27). -/
abbrev State.spaceRefused (s : State) (foot : Nat) (margin : Int) : Prop :=
  let new := ∀ o, s.pool.opened = some o → 2016 < o.fill + foot
  (new ∧ s.vom.remaining.getD 0 - 1 < margin) ∨
    (¬(new ∧ s.pool.free = 0) ∧ ∀ r, s.adu.nextRsn = some r → 281474976710656 ≤ r)

/-- The refusal of a writing request at the head of the admission queue, the tests in the order of Table 2-3; none where no test
refuses it (R19, R20, R28, R31 to R33). -/
def State.writingRefusal (s : State) (p : Port) (w : Writing) : Option Status :=
  if s.vom.state ≠ .ready then
    some (if s.vom.state = .faulted ∧ s.vom.cause ≠ some .drive then .writeFailed else .notReady)
  else
    match w with
    | .append x _ len =>
      if (s.stream x).isOpen = false then some .noStream
      else if ∃ q, q ≠ p ∧ (s.srt.volume = some q ∨ (s.stream x).holder = some q) then some .conflict
      else if s.spaceRefused ((16 + len + 7) / 8 * 8) 32 then some .volumeFull else none
    | .sync => none
    | .setClock v =>
      if ∃ q, q ≠ p ∧ s.srt.volume = some q then some .conflict
      else if (s.adu.clock.any fun c => decide (v < c)) = true then some .clockBackward
      else if s.spaceRefused 24 32 then some .volumeFull else none
    | .openStream x =>
      if ∃ q, q ≠ p ∧ s.srt.volume = some q then some .conflict
      else if (s.stream x).isOpen = true then none
      else if s.spaceRefused 16 32 then some .volumeFull else none
    | .closeStream x =>
      if (s.stream x).isOpen = false then some .noStream
      else if ∃ q, q ≠ p ∧ (s.srt.volume = some q ∨ (s.stream x).holder = some q) then some .conflict
      else if s.spaceRefused 24 0 then some .volumeFull else none

/-- An admission of the request would place a record (R22, R28, R32). -/
def State.makesRecord (s : State) : Writing → Prop
  | .sync => False
  | .openStream x => (s.stream x).isOpen = false
  | .append _ _ _ | .setClock _ | .closeStream _ => True

/-- The admission queue after the entry between `before` and `after` has left it. Where the entry was the head, the next one is
evaluated (R17); said here for a next entry that needs a new block while no buffer is FREE and is HELD (R21, R26). -/
abbrev QueueAfter (s : State) (before after queue : List Entry) : Prop :=
  ((before ≠ [] ∨ after = []) ∧ queue = before ++ after) ∨
    ∃ n rest, before = [] ∧ after = n :: rest ∧ s.pool.opened = none ∧ s.pool.free = 0 ∧ s.makesRecord n.request ∧
      s.writingRefusal n.port n.request = none ∧ queue = { n with held := true } :: rest

/-! ## What a host port holds afterwards -/

/-- The indicators of a reply that is no APPEND's, with neither ALREADY nor GAP: LOW when a volume is loaded at level LOW or
FULL (R167). -/
def State.marks (s : State) : Indicators := { low := s.low, clockUnset := false, already := false, gap := false }

/-- The ports after port p has taken a good frame: its link is up, its activity timer starts again, its error count is 0
(R162, R164). -/
def State.heard (s : State) (p : Port) : Vector HostPort 4 :=
  s.ports.set p { s.port p with up := true, activity := some 20, errors := 0 }

/-- The ports after a request has been taken at port p and stays in its tag slot. -/
def State.taken (s : State) (p : Port) (t : Tag) (x : TagSlot) : Vector HostPort 4 :=
  s.ports.set p { s.port p with up := true, activity := some 20, errors := 0, tags := (s.port p).tags.set t x }

/-- The ports after a request has been taken at port p and answered at once: the reply stands at the tail of the transmit
queue and the tag is IDLE (R166, R167, R171). -/
def State.answered (s : State) (p : Port) (t : Tag) (kind : Byte) (st : Status) (body : ReplyBody) (i : Indicators) :
    Vector HostPort 4 :=
  s.ports.set p { s.port p with
    up := true, activity := some 20, errors := 0, tags := (s.port p).tags.set t TagSlot.idle
    transmit := (s.port p).transmit ++ [.reply { tag := t, kind := kind, status := st, indicators := i, body := body }] }

/-- The ports after the request that waits under a tag has been replied to (R167). -/
def State.replied (s : State) (p : Port) (t : Tag) (st : Status) (body : ReplyBody) (i : Indicators) :
    Vector HostPort 4 :=
  s.ports.set p { s.port p with
    tags := (s.port p).tags.set t TagSlot.idle
    transmit := (s.port p).transmit ++
      [.reply { tag := t, kind := (s.slot p t).kindByte, status := st, indicators := i, body := body }] }

/-- The reply that the request under a tag is given, with the LOW indicator as it stands (R167). -/
def State.replyTo (s : State) (p : Port) (st : Status) (body : ReplyBody) (low : Bool) (t : Tag) : Frame :=
  .reply { tag := t, kind := (s.slot p t).kindByte, status := st, body := body
           indicators := { low := low, clockUnset := (s.slot p t).kindByte == 1 && s.adu.clock.isNone, already := false
                           gap := false } }

/-- A port can place the replies to the requests under these tags, and as many more frames, at once. -/
abbrev RepliesFit (s : State) (p : Port) (tags : List Tag) (more : Nat) : Prop :=
  (s.port p).up = true ∧ (s.port p).waiting = [] ∧ (s.port p).transmit.length + tags.length + more ≤ 12 ∧ tags.Nodup ∧
    ∀ t ∈ tags, (s.slot p t).state ≠ .idle

/-- The frames given stand at the tail of a port's transmit queue, the tags named are IDLE, and the others are as they were. -/
abbrev Replied (p : Port) (tags : List Tag) (frames : List Frame) (s t : State) : Prop :=
  (t.port p).transmit = (s.port p).transmit ++ frames ∧ (t.port p).waiting = [] ∧
    ∀ x, t.slot p x = if x ∈ tags then TagSlot.idle else s.slot p x

/-- The tags of a port's entries in the admission queue, in queue order. -/
def State.queuedTags (s : State) (p : Port) : List Tag :=
  (s.adu.queue.filter fun e => e.port = p).map fun e => e.tag

/-- The tags of a port's sync waiters on some blocks, block by block in list order. -/
def waiterTags (p : Port) (blocks : List Block) : List Tag :=
  (blocks.flatMap fun b => b.waiters.filter fun w => w.1 = p).map fun w => w.2

/-! ## Notices -/

/-- The notices of a port's queue, the oldest first, without their numbers and sending states. -/
def State.bodies (s : State) (p : Port) : List Notice := (s.notices p).queue.map fun e => e.body

/-- Notices after one more has been posted: one of its kind leaves its place, and the new one, combined with it as Table 9-1
gives, stands at the tail (R156, R157). -/
def posted (body : Notice) (queue : List Notice) : List Notice :=
  queue.filter (fun b => b.code ≠ body.code) ++
    [(queue.filter fun b => b.code = body.code).foldl (fun new old => old.combine new) body]

/-- The tag slots of a port are as they were, but for those whose reply waited for room: a withdrawn notice makes room (R171). -/
def SlotsKept (q : Port) (s t : State) : Prop := ∀ x : Tag, (s.slot q x).reply = none → t.slot q x = s.slot q x

/-! ## Faults and removals -/

/-- What a write fault makes of a state with no UNLOAD pending, but for the Medium Port: the queue is refused WRITE_FAILED, the sync
waiters are replied LOST in BSN and list order, each with its recorded RSN, WRITE_FAILED is posted (R36, R56, R94, R113, R165).
What stands in the transmit queue of a port is said where it has room for it and no WRITE_FAILED of its own is queued. -/
abbrev WriteFaulted (cause : FaultCause) (lost : Nat) (s t : State) : Prop :=
  t.vom.state = .faulted ∧ t.vom.cause = some cause ∧ t.vom.lost = some (lost + s.stagedRecords) ∧
    t.vom.frontier = s.vom.frontier ∧ t.vom.appendPoint = s.vom.appendPoint ∧ t.vom.highestRsn = s.vom.highestRsn ∧
    t.pool = { s.pool with free := s.pool.free + s.staged, opened := none, sealed := [] } ∧
    t.ape = { state := .idle, unverified := [], inWrite := none, yield := false } ∧
    (∀ p, t.bodies p = posted (.writeFailed cause s.stagedRecords) (s.bodies p)) ∧
    (∀ p, RepliesFit s p (s.queuedTags p ++ waiterTags p (sortBlocks s.writtenBlocks)) 1 →
      (∀ e ∈ (s.notices p).queue, e.body.code ≠ 5) →
      ∃ number, Replied p (s.queuedTags p ++ waiterTags p (sortBlocks s.writtenBlocks))
        ((s.queuedTags p).map (s.replyTo p .writeFailed .empty s.low) ++
          (waiterTags p (sortBlocks s.writtenBlocks)).map (fun x => s.replyTo p .lost (.rsn (s.slot p x).rsn) s.low x) ++
          [.notice number (.writeFailed cause s.stagedRecords)]) s t) ∧
    t.adu = { s.adu with queue := [] } ∧ t.srt = s.srt ∧ t.cursors = s.cursors ∧ t.params = s.params

/-- The Medium Port after a removal or a drive fault: no operation, no head position, no grant and no request (R69, R71). -/
def MediumPort.bare (m : MediumPort) : MediumPort :=
  { m with
    link := none, timer := none, retry := false, head := none, holder := none, volumeWaits := false, engineWaits := false
    cursorWaits := PortSet.empty, writes := 0 }

/-! ## Reads -/

/-- A completion of the read under an operation number: the header of the slot where it is GOOD, and the bytes that came where
any did (R7, R65). -/
def ReadEnds (k : Byte) (c : Instr) (good : Option SlotHeader) (bytes : Option (List Byte)) : Prop :=
  (good = none ∧ bytes = none ∧ (c = .blank k ∨ c = .readError k)) ∨
    ∃ b, bytes = some b ∧ c = .readDone k b ∧
      ((good = none ∧ ∀ h, classify b ≠ .good h) ∨ ∃ h, good = some h ∧ classify b = .good h)

/-- The end-search scratch after the read of a slot: the highest session, and the candidate of the highest BSN, the later slot of
two with one BSN (R102). -/
def Scratch.seen (x : Scratch) (n : Nat) (good : Option SlotHeader) (bytes : Option (List Byte)) : Scratch :=
  match good with
  | none => { x with image := bytes.getD x.image }
  | some h => { x with
      image := bytes.getD x.image, highest := some (max (x.highest.getD 0) h.session)
      best :=
        match x.best with
        | some c => if h.bsn < c.bsn then some c else some { bsn := h.bsn, slot := n, firstRsn := h.firstRsn, count := h.count }
        | none => some { bsn := h.bsn, slot := n, firstRsn := h.firstRsn, count := h.count } }

/-- A slot is skipped and sets no candidate: it is not GOOD, or a superseded copy (R127). -/
abbrev Cursor.passesBy (c : Cursor) (d : Nat) (good : Option SlotHeader) : Prop :=
  good = none ∨ ∃ h, good = some h ∧ h.bsn ≤ d ∧
    ((∃ e, c.expected = some e ∧ h.bsn < e) ∨ (c.expected = none ∧ ∃ l, c.last = some l ∧ h.bsn ≤ l))

/-- A slot is skipped because its BSN is above the expected one (R127). -/
abbrev Cursor.missesAt (c : Cursor) (d : Nat) (h : SlotHeader) : Prop := h.bsn ≤ d ∧ ∃ e, c.expected = some e ∧ e < h.bsn

/-- A slot is accepted (R127). -/
abbrev Cursor.takes (c : Cursor) (d : Nat) (h : SlotHeader) : Prop :=
  h.bsn ≤ d ∧ (c.expected = some h.bsn ∨ (c.expected = none ∧ ∀ l, c.last = some l → l < h.bsn))

/-- Port p's read of slot n has ended and its buffer is FREE again; the cursor is `c` and reads on at slot n + 1, into a buffer
that the pool grants (R53 to R55, R125). Two free order choices are used up by the wake-ups (log entry 6). -/
def State.readsOn (s : State) (p : Port) (n : Nat) (c : Cursor) : State :=
  { s with
    cursors := s.cursors.set p { c with
      readPos := some (n + 1), hold := none, inFlight := true, reads := (s.cursor p).reads + 1 }
    mpt := { s.mpt with
      link := some { op := .read (n + 1), number := s.mpt.nextOp, issuer := .cursor p }, timer := some 3000, retry := false
      nextOp := s.mpt.nextOp + 1, head := some (n + 1) }
    choice := s.choice + 2 }

/-- Port p's read of slot n has ended and its buffer is FREE again; the cursor resynchronises at slot j and seeks it (R125,
R130). -/
def State.seeksBack (s : State) (p : Port) (n j : Nat) : State :=
  { s with
    pool := { s.pool with free := s.pool.free + 1 }
    cursors := s.cursors.set p { s.cursor p with
      readPos := some j, expected := none, skipped := 0, candidate := none, hold := none, gap := true, inFlight := false }
    mpt := { s.mpt with
      link := some { op := .seek j, number := s.mpt.nextOp, issuer := .cursor p }, timer := some 3000, retry := false
      nextOp := s.mpt.nextOp + 1, head := some (n + 1) }
    choice := s.choice + 2 }

/-- Port p's read of slot n has ended and its buffer is FREE again; the fill stops at the frontier with the cursor `c`, and the
grant goes (R121, R125, R128). -/
def State.stopsAtFrontier (s : State) (p : Port) (n : Nat) (c : Cursor) : State :=
  { s with
    pool := { s.pool with free := s.pool.free + 1 }
    cursors := s.cursors.set p { c with
      state := if c.buffered = [] then .atFrontier else .ready, phase := .idle, inFlight := false }
    mpt := { s.mpt with
      link := none, timer := none, retry := false, head := some (n + 1), holder := none }
    choice := s.choice + 2 }

/-! ## What a port reset leaves -/

/-- A block without its waiters of a port. -/
def Block.without (b : Block) (p : Port) : Block := { b with waiters := b.waiters.filter fun w => w.1 ≠ p }

/-- What a reset of port p makes of a state (R35, R112, R139, R152, R161, R169, R170). -/
structure PortWasReset (p : Port) (s t : State) : Prop where
  slots : (t.port p).tags = Vector.replicate 4 TagSlot.idle
  errors : (t.port p).errors = 0
  notice : t.bodies p = [.resetOccurred .port]
  others : ∀ q, q ≠ p → t.bodies q = posted (.portDown (PortSet.empty.set p true)) (s.bodies q) ∧
    SlotsKept q s t ∧ (t.port q).up = (s.port q).up
  queue : t.adu = { s.adu with queue := s.adu.queue.filter fun e => e.port ≠ p }
  pool : t.pool = { s.pool with sealed := s.pool.sealed.map fun b => b.without p }
  engine : t.ape = { s.ape with
    unverified := s.ape.unverified.map fun u => { u with block := u.block.without p }
    inWrite := s.ape.inWrite.map fun w => { w with block := w.block.without p } }
  claims : t.srt.streams = s.srt.streams.map (fun e => if e.holder = some p then { e with holder := none } else e) ∧
    t.srt.volume = (if s.srt.volume = some p then none else s.srt.volume) ∧ t.srt.locks = s.srt.locks.set p false
  volume : t.vom = { s.vom with
    unload := s.vom.unload.map fun u => if u.port = p then { u with owed := false } else u }
  cursor : (t.cursor p).state = .closed ∧ ∀ q, q ≠ p → t.cursor q = s.cursor q
  rest : t.params = s.params ∧ t.ctl = s.ctl ∧ t.mpt.holder = s.mpt.holder ∧
    t.mpt.link.map (fun o => (o.op, o.number)) = s.mpt.link.map (fun o => (o.op, o.number))

end Sys2Proof.Machine
end

