-- ==== Sys2Proof/Certificates/Slice0/Obligations.lean ====
section
/-! DEFINITION. The statements about the model, for the provers. -/

open Sys2Proof Sys2Proof.Machine

/-! ## The step, reset and the start-up test -/

/-- A step takes the command at the front of the queue and runs it with the queue's rest. That the commands wait in a queue,
first in, first out, is the model's own form (log entry 1). -/
def Obligations.StepTakesFront : Prop :=
  ∀ (c : Instr) (rest : List Instr) (s : State), s.pending = c :: rest → step s = exec c { s with pending := rest }

/-- RESET_N_ASSERTED, in any state: the part-reset values of every block (Tables 2-4, 3-3, 4-3, 5-3, 6-4, 7-2, 8-2, 9-2, 10-3
and 11-1), with TEST at 15 and the two lines deasserted. Five clauses are the model's choice: that this is the state while RESET_N
is asserted, with the Control Unit's test state held (log entry 3), that no cartridge is noted (log entry 27), that the
end-search scratch is unset and its slot image empty (log entry 35), that the queue of waiting commands and the counter of
free choices, the model's own, are kept (log entries 1 and 6), and that `signals`, the model's own list of reports not yet acted
on, is empty (log entry 5). -/
def Obligations.ResetAsserted : Prop :=
  ∀ s : State, ∃ t, exec .resetNAsserted s = .next t ∧
    t.pending = s.pending ∧ t.choice = s.choice ∧ t.signals = [] ∧
    t.ctl.testLines = 15 ∧ t.ctl.faultLine = false ∧ t.ejectInhibit = false ∧ t.ctl.resetAsserted = true ∧
    t.ctl.test = .held ∧ t.ctl.cartridgeNoted = false ∧
    t.scratch = { slot := none, image := [], best := none, highest := none } ∧
    t.params = { sealDelay := 40, startCount := 3, startAge := 150, holdLimit := 2000, ewReserve := 2048, readahead := 4,
                 replayLimit := 12, stagingFloor := 8, burstMax := 32 } ∧
    (∀ p, t.port p = { up := false, activity := none, errors := 0, transmit := [], waiting := [],
                       tags := Vector.replicate 4 { state := .idle, frame := none, rsn := none, reply := none } }) ∧
    t.adu = { queue := [], nextRsn := none, clock := none } ∧
    t.pool = { free := 48, opened := none, sealed := [], nextBsn := none } ∧
    t.mpt.link = none ∧ t.mpt.timer = none ∧ t.mpt.retry = false ∧ t.mpt.nextOp = 0 ∧ t.mpt.head = none ∧
    t.mpt.holder = none ∧ (∀ c, t.mpt.waits c = false) ∧ t.mpt.writes = 0 ∧ t.mpt.burstLimit = none ∧
    t.mpt.lastServed = 3 ∧
    t.ape = { state := .idle, unverified := [], inWrite := none, yield := false } ∧
    t.vom = VolumeRecord.unset .none ∧
    (∀ p, (t.cursor p).state = .closed ∧ (t.cursor p).phase = .idle ∧ (t.cursor p).readPos = none ∧
      (t.cursor p).expected = none ∧ (t.cursor p).last = none ∧ (t.cursor p).candidate = none ∧
      (t.cursor p).skipped = 0 ∧ (t.cursor p).hold = none ∧ (t.cursor p).filter = { streams := 0, part := false } ∧
      (t.cursor p).buffered = [] ∧ (t.cursor p).next = none ∧ (t.cursor p).gap = false ∧ (t.cursor p).reads = 0 ∧
      (t.cursor p).inUse = none ∧ (t.cursor p).inFlight = false) ∧
    (∀ x, t.stream x = { isOpen := false, holder := none, count := 0, lastRsn := none }) ∧
    t.srt.volume = none ∧ (∀ p : Port, t.srt.locks[p] = false) ∧
    (∀ p, t.notices p = { queue := [], counter := 0 })

/-- RESET_N_RELEASED and the ends of phases 1 and 2: each pass goes to the next phase, whose number TEST shows; each failure
halts the part with FAULT asserted and TEST as it was. Phase 3 begins with a MOUNT of the Control Unit's, without a grant
(R59, R178, R179). -/
def Obligations.StartUpPhases : Prop :=
  ∀ s : State, s.signals = [] →
    (s.ctl.test = .held →
      exec .resetNReleased s = .next (driveInhibit { s with
        ctl := { s.ctl with test := .phase1, testLines := 1, resetAsserted := false } })) ∧
    (s.ctl.test = .phase1 →
      exec (.bufferMemoryTestEnd true) s = .next (driveInhibit { s with
        ctl := { s.ctl with test := .phase2, testLines := 2 } })) ∧
    (s.ctl.test = .phase1 →
      exec (.bufferMemoryTestEnd false) s = .next (driveInhibit { s with
        ctl := { s.ctl with test := .halted, faultLine := true } })) ∧
    (s.ctl.test = .phase2 → s.mpt.link = none →
      exec (.tableMemoryTestEnd true) s = .next (driveInhibit { s with
        ctl := { s.ctl with test := .phase3, testLines := 3 }
        mpt := { s.mpt with
          link := some { op := .mount, number := s.mpt.nextOp, issuer := .control }, timer := some 3000, retry := false
          nextOp := s.mpt.nextOp + 1 } })) ∧
    (s.ctl.test = .phase2 →
      exec (.tableMemoryTestEnd false) s = .next (driveInhibit { s with
        ctl := { s.ctl with test := .halted, faultLine := true } }))

/-! ## Requests answered at once -/

/-- The field checks of Table 10-2 (R166) over the widths of Table 12-1 (R180) and the payload layouts of R181: which payload bytes
of which request kind pass the checks of the port. That spare flag bits, the n of FIRST and every other byte a layout marks zero
pass, whatever they hold, is the model's reading (log entry 33). -/
def Obligations.FieldChecks : Prop :=
  ∀ (k : Nat) (b : List Byte),
    (parseRequest k b).isSome = true ↔
      (k = 1 ∧ b.length = 4 + natAt 2 2 b ∧ natAt 2 2 b ≤ 2000 ∧ natAt 0 1 b ≤ 15) ∨
      ((k = 2 ∨ k = 8 ∨ k = 9 ∨ k = 10 ∨ k = 12 ∨ k = 13 ∨ k = 15 ∨ k = 16) ∧ b = []) ∨
      (k = 3 ∧ b.length = 6) ∨
      ((k = 4 ∨ k = 5) ∧ b.length = 1 ∧ natAt 0 1 b ≤ 15) ∨
      ((k = 6 ∨ k = 7) ∧ b.length = 1 ∧ (natAt 0 1 b ≤ 15 ∨ natAt 0 1 b = 255)) ∨
      (k = 11 ∧ b.length = 8 ∧
        (natAt 0 1 b = 1 ∨ (natAt 0 1 b = 2 ∧ natAt 1 4 b ≤ 16777215) ∨
          (natAt 0 1 b = 3 ∧ 1 ≤ natAt 1 4 b ∧ natAt 1 4 b ≤ 16777216))) ∨
      (k = 14 ∧ 1 ≤ natAt 0 1 b ∧ natAt 0 1 b ≤ 9 ∧ b.length = 1 + 3 * natAt 0 1 b) ∨
      (k = 17 ∧ b.length = 2)

/-- A request whose fields fail the port's checks is refused BAD_REQUEST whatever the gate, and changes nothing outside its
tag slot; so is UNKNOWN_REQUEST_KIND, a kind outside 1 to 17 (R166, steps 1 and 2; they come before the gate check). -/
def Obligations.MalformedRefused : Prop :=
  ∀ (s : State) (p : Port) (t : Tag) (k : Byte) (b : List Byte), Ready s p t → b.length ≤ 2040 →
    (parseRequest k.toNat b = none →
      exec (requestCommand p t k b) s = .next (driveInhibit { s with
        ports := (s.answered p t k .badRequest .empty
          { s.marks with clockUnset := k == 1 && s.adu.clock.isNone }) })) ∧
    (k.toNat = 0 ∨ 17 < k.toNat →
      exec (.unknownRequestKind p t k b) s = .next (driveInhibit { s with
        ports := (s.answered p t k .badRequest .empty s.marks) }))

/-- A request of a gated kind whose fields are good is refused ATTENTION while the port's notice queue holds an entry of a
gating kind, sent or unsent, and reaches no other block (R160, R166). -/
def Obligations.GatedRefused : Prop :=
  ∀ (s : State) (p : Port) (t : Tag) (k : Byte) (b : List Byte),
    Ready s p t → b.length ≤ 2040 → (parseRequest k.toNat b).isSome = true →
    k.toNat ∈ [1, 2, 3, 4, 5, 6, 8, 10, 11, 12] →
    (∃ e ∈ (s.notices p).queue,
      (∃ c, e.body = .resetOccurred c) ∨ (∃ a b c d f, e.body = .volumeLoaded a b c d f) ∨
        (∃ r, e.body = .volumeRejected r) ∨ (∃ c h n, e.body = .volumeGone c h n) ∨ (∃ c n, e.body = .writeFailed c n)) →
      exec (requestCommand p t k b) s = .next (driveInhibit { s with
        ports := (s.answered p t k .attention .empty
          { s.marks with clockUnset := k == 1 && s.adu.clock.isNone }) })

/-- RESERVE of a stream: the gate, the checks in order, the grant, and nothing else changed (R146). -/
def Obligations.ReserveStream : Prop :=
  ∀ (s : State) (p : Port) (t : Tag) (x : StreamId) (st : Status) (already : Bool) (e : StreamEntry),
    Ready s p t →
    (st, already, e) = (
      if ¬GateOpen s p then (.attention, false, s.stream x)
      else if ¬(s.vom.state = .ready ∨ s.vom.state = .draining ∨
          (s.vom.state = .faulted ∧ s.vom.cause ≠ some .drive)) then (.notReady, false, s.stream x)
      else if (s.stream x).isOpen = false then (.noStream, false, s.stream x)
      else if ∃ q, q ≠ p ∧ s.srt.volume = some q then (.conflict, false, s.stream x)
      else if ∃ q, q ≠ p ∧ (s.stream x).holder = some q then (.conflict, false, s.stream x)
      else if (s.stream x).holder = some p then (.done, true, s.stream x)
      else (.done, false, { s.stream x with holder := some p })) →
      exec (.reserveStream p t [BitVec.ofNat 8 x.val]) s = .next (driveInhibit { s with
        ports := (s.answered p t 6 st .empty { s.marks with already := already })
        srt := { s.srt with streams := s.srt.streams.set x e } })

/-- RESERVE of the volume: the gate, the checks in order, the grant, and nothing else changed (R147). -/
def Obligations.ReserveVolume : Prop :=
  ∀ (s : State) (p : Port) (t : Tag) (st : Status) (already : Bool) (v : Option Port),
    Ready s p t →
    (st, already, v) = (
      if ¬GateOpen s p then (.attention, false, s.srt.volume)
      else if ¬(s.vom.state = .ready ∨ s.vom.state = .draining ∨
          (s.vom.state = .faulted ∧ s.vom.cause ≠ some .drive)) then (.notReady, false, s.srt.volume)
      else if ∃ q, q ≠ p ∧ s.srt.volume = some q then (.conflict, false, s.srt.volume)
      else if ∃ x q, q ≠ p ∧ (s.stream x).holder = some q then (.conflict, false, s.srt.volume)
      else if s.srt.volume = some p then (.done, true, s.srt.volume)
      else (.done, false, some p)) →
      exec (.reserveVolume p t) s = .next (driveInhibit { s with
        ports := (s.answered p t 6 st .empty { s.marks with already := already })
        srt := { s.srt with volume := v } })

/-- RELEASE of a stream and of the volume, in every volume state and whatever the gate: the requester's own claim ends, another's
does not; the reply is DONE in every case (R148). -/
def Obligations.Release : Prop :=
  ∀ (s : State) (p : Port) (t : Tag), Ready s p t →
    (∀ x : StreamId,
      exec (.releaseStream p t [BitVec.ofNat 8 x.val]) s = .next (driveInhibit { s with
        ports := (s.answered p t 7 .done .empty s.marks)
        srt := { s.srt with streams := s.srt.streams.set x { s.stream x with
          holder := if (s.stream x).holder = some p then none else (s.stream x).holder } } })) ∧
    exec (.releaseVolume p t) s = .next (driveInhibit { s with
      ports := (s.answered p t 7 .done .empty s.marks)
      srt := { s.srt with volume := if s.srt.volume = some p then none else s.srt.volume } })

/-- LOCK_REMOVAL: refused ATTENTION at a closed gate, NOT_READY in NONE, MOUNTING, REJECTED and FAULTED with cause DRIVE; in every
other state the requester joins the lock set (R150). UNLOCK_REMOVAL: DONE in every volume state and whatever the gate; the
requester leaves the set (R151). -/
def Obligations.RemovalLock : Prop :=
  ∀ (s : State) (p : Port) (t : Tag), Ready s p t →
    exec (.lockRemoval p t []) s = .next (driveInhibit
      (if ¬GateOpen s p then { s with ports := (s.answered p t 8 .attention .empty s.marks) }
      else if s.vom.state = .none ∨ s.vom.state = .mounting ∨ s.vom.state = .rejected ∨
          (s.vom.state = .faulted ∧ s.vom.cause = some .drive) then
        { s with ports := (s.answered p t 8 .notReady .empty s.marks) }
      else
        { s with
          ports := (s.answered p t 8 .done .empty s.marks)
          srt := { s.srt with locks := s.srt.locks.set p true } })) ∧
    exec (.unlockRemoval p t []) s = .next (driveInhibit { s with
      ports := (s.answered p t 9 .done .empty s.marks)
      srt := { s.srt with locks := s.srt.locks.set p false } })

/-- GET_PARAMETERS and GET_STATUS, in every state and whatever the gate: DONE with the parameter set in identifier order, and
DONE with the snapshot of R177, in which the request's own tag appears as occupied (R176, R177). The state it appears in,
`dispatching`, is the model's own: R177 says only that it is occupied, and its byte is free (log entry 21). -/
def Obligations.StatusReads : Prop :=
  ∀ (s : State) (p : Port) (t : Tag), Ready s p t →
    exec (.getParameters p t []) s = .next (driveInhibit { s with
      ports := (s.answered p t 15 .done (.params s.params) s.marks) }) ∧
    (ReplyBody.params s.params).bytes =
      [s.params.sealDelay, s.params.startCount, s.params.startAge, s.params.holdLimit, s.params.ewReserve,
        s.params.readahead, s.params.replayLimit, s.params.stagingFloor, s.params.burstMax].flatMap (beBytes 2) ∧
    exec (.getStatus p t []) s = .next (driveInhibit { s with
      ports := (s.answered p t 16 .done (.status
        { volume := s.vom, ejectInhibit := s.ejectInhibit, counts := s.counts, nextBsn := s.pool.nextBsn
          nextRsn := s.adu.nextRsn, clock := s.adu.clock, claims := s.srt, cursorState := (s.cursor p).state
          readPos := (s.cursor p).readPos, nBuffered := (s.cursor p).buffered.length
          tags := ((s.port p).tags.map fun x => x.state).set t .dispatching }) s.marks) })

/-- SET_PARAMETERS: a pair with an identifier outside 1 to 9, an identifier named twice or a value outside its range refuses the
whole list BAD_REQUEST, a volume reservation of another port refuses it CONFLICT, in that order and with nothing changed (R174). -/
def Obligations.SetParametersRefused : Prop :=
  ∀ (s : State) (p : Port) (t : Tag) (b : List Byte) (pairs : List (Nat × Nat)),
    Ready s p t → b.length ≤ 2040 → parseRequest 14 b = some (.setParameters pairs) →
    ((∃ q ∈ pairs, ∀ lo hi, (q.1, lo, hi) ∈ [(1, 1, 1000), (2, 1, 32), (3, 10, 2000), (4, 0, 60000), (5, 64, 65535),
        (6, 1, 8), (7, 0, 24), (8, 2, 24), (9, 4, 255)] → ¬(lo ≤ q.2 ∧ q.2 ≤ hi)) ∨
      ¬(pairs.map fun q => q.1).Nodup →
      exec (.setParameters p t b) s = .next (driveInhibit { s with
        ports := (s.answered p t 14 .badRequest .empty s.marks) })) ∧
    ((∀ q ∈ pairs, ∃ lo hi, (q.1, lo, hi) ∈ [(1, 1, 1000), (2, 1, 32), (3, 10, 2000), (4, 0, 60000), (5, 64, 65535),
        (6, 1, 8), (7, 0, 24), (8, 2, 24), (9, 4, 255)] ∧ lo ≤ q.2 ∧ q.2 ≤ hi) →
      (pairs.map fun q => q.1).Nodup → (∃ q, q ≠ p ∧ s.srt.volume = some q) →
      exec (.setParameters p t b) s = .next (driveInhibit { s with
        ports := (s.answered p t 14 .conflict .empty s.marks) }))

/-- SET_PARAMETERS accepted: every pair is applied at once and every other parameter stands; the reply is DONE with the set as
it now stands (R173 to R175). Stated where the owners have nothing to do: no cursor is STARVED, and a new EW_RESERVE leaves
the capacity level as it is. -/
def Obligations.SetParametersApplied : Prop :=
  ∀ (s : State) (p : Port) (t : Tag) (b : List Byte) (pairs : List (Nat × Nat)),
    Ready s p t → b.length ≤ 2040 → parseRequest 14 b = some (.setParameters pairs) →
    (∀ q ∈ pairs, ∃ lo hi, (q.1, lo, hi) ∈ [(1, 1, 1000), (2, 1, 32), (3, 10, 2000), (4, 0, 60000), (5, 64, 65535),
        (6, 1, 8), (7, 0, 24), (8, 2, 24), (9, 4, 255)] ∧ lo ≤ q.2 ∧ q.2 ≤ hi) →
    (pairs.map fun q => q.1).Nodup → (∀ q, q ≠ p → s.srt.volume ≠ some q) →
    (∀ q, (s.cursor q).phase ≠ .starved) →
    (∀ v, (5, v) ∈ pairs → s.vom.counting = false ∨
      ∃ r, s.vom.remaining = some r ∧ 32 < r ∧ (s.vom.level = some .normal → (v : Int) < r)) →
      ∃ new : Params,
        exec (.setParameters p t b) s = .next (driveInhibit { s with
          ports := (s.answered p t 14 .done (.params new) s.marks)
          params := new
          choice := if new.replayLimit = s.params.replayLimit ∧ new.stagingFloor = s.params.stagingFloor then s.choice
            else s.choice + 1 }) ∧
        ∀ id, 1 ≤ id → id ≤ 9 →
          (∀ v, (id, v) ∈ pairs → new.value id = some v) ∧
            ((∀ v, (id, v) ∉ pairs) → new.value id = s.params.value id)

/-! ## The start-up test passes -/

/-- The medium link check ends: MOUNTED and MOUNT_ERROR note a cartridge, NO_MEDIUM leaves the note as it stands. The part
runs with TEST at 0, RESET_OCCURRED (PART) takes number 0 at every port and goes out on it, the four links come up, and the
Volume Manager begins to mount a cartridge that is present (R61, R98, R162, R179). -/
def Obligations.StartUpPasses : Prop :=
  ∀ (s : State) (n : Byte) (c : Instr) (head : Option Nat) (present : Bool),
    s.ctl.test = .phase3 → s.signals = [] →
    s.mpt.link = some { op := .mount, number := n, issuer := .control } → s.mpt.holder = none → NoneAsks s →
    s.vom = VolumeRecord.unset .none → s.ports = Vector.replicate 4 HostPort.reset →
    s.ntu = Vector.replicate 4 NoticeUnit.reset →
    ((∃ cap ser m, c = .mounted n cap ser m) ∧ head = some 0 ∧ present = true) ∨
      (c = .noMedium n ∧ head = none ∧ present = s.ctl.cartridgeNoted) ∨
      (c = .mountError n ∧ head = none ∧ present = true) →
      exec c s = .next (driveInhibit { s with
        ctl := { s.ctl with test := .running, testLines := 0, cartridgeNoted := present }
        ports := Vector.replicate 4 { HostPort.reset with
          up := true, activity := some 20, transmit := [.notice 0 (.resetOccurred .part)] }
        ntu := Vector.replicate 4 {
          queue := [{ number := 0, body := .resetOccurred .part, sent := true }], counter := 1 }
        vom := VolumeRecord.unset (if present then .mounting else .none)
        mpt := { s.mpt with
          link := if present then some { op := .mount, number := s.mpt.nextOp, issuer := .volume } else none
          timer := if present then some 3000 else none
          retry := false
          nextOp := if present then s.mpt.nextOp + 1 else s.mpt.nextOp
          head := head
          holder := if present then some .volume else none
          burstLimit := if present then some s.params.burstMax else s.mpt.burstLimit } })

/-! ## Host links -/

/-- FRAME_ERROR below the eighth in a row, and a REQUEST for a tag that is not IDLE or with more than 2,040 payload bytes, which
is one: the count rises by 1 and nothing else of the port changes but the activity timer (R162 to R164). That the characters of
such a frame bring a DOWN link up is the model's reading (log entry 8). -/
def Obligations.FrameErrors : Prop :=
  ∀ (s : State) (p : Port), Clear s p → (s.port p).errors < 7 →
    exec (.frameError p) s = .next (driveInhibit { s with
      ports := s.ports.set p { s.port p with up := true, activity := some 20, errors := (s.port p).errors + 1 } }) ∧
    ∀ (t : Tag) (k : Byte) (b : List Byte), ((s.slot p t).state ≠ .idle ∨ 2040 < b.length) →
      exec (requestCommand p t k b) s = .next (driveInhibit { s with
        ports := s.ports.set p { s.port p with up := true, activity := some 20, errors := (s.port p).errors + 1 } })

/-- PORT_RESET, the eighth frame error in a row, and the expiry of the activity timer reset the port; only the last takes
the link DOWN (R162, R164, R169, R170). Left out are a port whose own entry stands at the head of the admission queue, one whose
cursor has buffered blocks, and one whose cursor holds the grant or makes the engine yield. That FRAME_ERROR_LIMIT is the eighth
frame error itself is the model's reading (log entry 9); so is that a pending UNLOAD of the port stays recorded and only its reply
is struck off (log entry 14). -/
def Obligations.PortResets : Prop :=
  ∀ (s : State) (p : Port), Running s → (∀ e, s.adu.queue.head? = some e → e.port ≠ p) →
    (s.cursor p).buffered = [] → s.mpt.holder ≠ some (.cursor p) → s.ape.yield = false →
    (∃ t, exec (.portReset p) s = .next t ∧ (t.port p).up = true ∧ (t.port p).activity = some 20 ∧
      (t.port p).transmit = [.notice (s.notices p).counter (.resetOccurred .port)] ∧ PortWasReset p s t) ∧
    ((s.port p).errors = 7 → exec (.frameError p) s = exec (.frameErrorLimit p) s ∧
      ∃ t, exec (.frameErrorLimit p) s = .next t ∧ (t.port p).up = true ∧ (t.port p).activity = some 20 ∧
        (t.port p).transmit = [.notice (s.notices p).counter (.resetOccurred .port)] ∧ PortWasReset p s t) ∧
    ((s.port p).activity ≠ none →
      ∃ t, exec (.activityTimerExpiry p) s = .next t ∧ (t.port p).up = false ∧ (t.port p).activity = none ∧
        (t.port p).transmit = [] ∧ PortWasReset p s t)

/-- CHARACTER_RECEIVED: the link is UP, its activity timer starts again, and the notices that waited while it was DOWN are placed
in the order of their posting and become SENT. FRAME_TRANSMITTED: the head leaves the transmit queue, and the oldest reply that
waited for room is placed and frees its tag (R158, R162, R171, R172). -/
def Obligations.LinkActivity : Prop :=
  ∀ (s : State) (p : Port), Running s →
    ((s.port p).waiting = [] →
      exec (.characterReceived p) s = .next (driveInhibit { s with
        ports := s.ports.set p { s.port p with up := true, activity := some 20 } })) ∧
    ((s.port p).waiting = (s.notices p).queue.map (fun e => .notice e.number) →
      ((s.notices p).queue.map fun e => e.number).Nodup → (s.port p).transmit = [] → (s.notices p).queue.length ≤ 12 →
      exec (.characterReceived p) s = .next (driveInhibit { s with
        ports := s.ports.set p { s.port p with
          up := true, activity := some 20, waiting := []
          transmit := (s.notices p).queue.map fun e => .notice e.number e.body }
        ntu := s.ntu.set p { s.notices p with queue := (s.notices p).queue.map fun e => { e with sent := true } } })) ∧
    ((s.port p).up = true → (s.port p).waiting = [] →
      exec (.frameTransmitted p) s = .next (driveInhibit { s with
        ports := s.ports.set p { s.port p with transmit := (s.port p).transmit.tail } })) ∧
    (∀ (t : Tag) (rest : List WaitItem) (r : Reply),
      (s.port p).up = true → (s.port p).waiting = .reply t :: rest → (s.slot p t).reply = some r →
      (s.port p).transmit.length = 12 →
      exec (.frameTransmitted p) s = .next (driveInhibit { s with
        ports := s.ports.set p { s.port p with
          tags := (s.port p).tags.set t TagSlot.idle
          transmit := (s.port p).transmit.tail ++ [.reply r], waiting := rest } }))

/-- No step takes a transmit queue beyond 12 frames, or a count of frame errors to 8; and none leaves an item waiting to be placed
at a port whose link is up and whose transmit queue has room (R164, R171). -/
def Obligations.PortBoundsKept : Prop :=
  ∀ s t : State, step s = .next t →
    (TransmitBounded s ∧ ErrorsBelow s → TransmitBounded t ∧ ErrorsBelow t) ∧ (PlacedAtOnce s → PlacedAtOnce t)

/-- ACK_NOTICE: every entry up to the one named leaves the queue, its frame with it unless it stands at the head of the
transmit queue, where its transmission has begun (log entry 10); the DONE carries the gate. Where no entry has the number, the
request is refused and the queue stands (R159, R172). -/
def Obligations.AckNotice : Prop :=
  ∀ (s : State) (p : Port) (t : Tag) (k : BitVec 16), Ready s p t →
    (∀ (before : List NoticeEntry) (e : NoticeEntry) (after : List NoticeEntry),
      (s.notices p).queue = before ++ e :: after → e.number = k → (∀ x ∈ before, x.number ≠ k) →
      exec (.ackNotice p t (beBytes 2 k.toNat)) s = .next (driveInhibit { s with
        ports := s.ports.set p { s.port p with
          up := true, activity := some 20, errors := 0, tags := (s.port p).tags.set t TagSlot.idle
          transmit := (s.port p).transmit.head?.toList ++ (s.port p).transmit.tail.filter (fun f =>
            match f with
            | .notice j _ => (before ++ [e]).all fun x => x.number != j
            | .reply _ => true) ++
              [.reply { tag := t, kind := 17, status := .done, indicators := s.marks,
                        body := .gate (after.any fun x => x.body.gating) }] }
        ntu := s.ntu.set p { s.notices p with queue := after } })) ∧
    ((∀ x ∈ (s.notices p).queue, x.number ≠ k) →
      exec (.ackNotice p t (beBytes 2 k.toNat)) s = .next (driveInhibit { s with
        ports := (s.answered p t 17 .badRequest .empty s.marks) }))

/-- No step puts two notices of one kind, or two of one number, in one queue (R154, R156, R157). -/
def Obligations.NoticesDistinctKept : Prop :=
  ∀ s t : State, NoticesDistinct s → step s = .next t → NoticesDistinct t

/-! ## Parameters over all commands -/

/-- No command but SET_PARAMETERS and the part reset changes a parameter (R173). -/
def Obligations.ParametersKept : Prop :=
  ∀ (c : Instr) (s t : State), c.wf = true → c ≠ .resetNAsserted → (∀ p tag b, c ≠ .setParameters p tag b) →
    exec c s = .next t → t.params = s.params

/-- No step takes a parameter outside its range (R174, Table 11-1). -/
def Obligations.ParametersInRange : Prop :=
  ∀ s t : State, s.params.inRange → step s = .next t → t.params.inRange

/-! ## Admission -/

/-- A writing request of any of the five kinds that a test of Table 2-3 refuses at the head: the tests in order, the status, and
nothing else changed (R19, R20, R28, R31 to R33). -/
def Obligations.WritingRefused : Prop :=
  ∀ (s : State) (p : Port) (t : Tag) (k : Byte) (b : List Byte) (w : Writing) (st : Status),
    Ready s p t → GateOpen s p → s.adu.queue = [] → b.length ≤ 2040 →
    parseRequest k.toNat b = some (.writing w) → s.writingRefusal p w = some st →
      exec (requestCommand p t k b) s = .next (driveInhibit { s with
        ports := (s.answered p t k st .empty
          { s.marks with clockUnset := k == 1 && s.adu.clock.isNone }) })

/-- APPEND, sync flag clear, whose record fits in the open block: the record is placed with the next RSN and the clock's
timestamp, the stream's counters take it, and the reply is DONE with the RSN (R22, R23, R27, R42, R142). That the spare bits of
the flags byte may be set is the model's reading (log entry 33). -/
def Obligations.AppendAdmitted : Prop :=
  ∀ (s : State) (p : Port) (t : Tag) (x : StreamId) (flags : Byte) (d : List Byte) (o : OpenBlock) (r : Nat),
    AtHead s p t → (s.stream x).isOpen = true → Unclaimed s p x → flags.getLsbD 0 = false → d.length ≤ 2000 →
    s.pool.opened = some o → 0 < o.count → o.fill + (16 + d.length + 7) / 8 * 8 ≤ 2016 →
    s.adu.nextRsn = some r → r < 281474976710656 →
      exec (.append p t ([BitVec.ofNat 8 x.val, flags] ++ beBytes 2 d.length ++ d)) s = .next (driveInhibit { s with
        ports := (s.answered p t 1 .done (.rsn (some r)) { s.marks with clockUnset := s.adu.clock.isNone })
        adu := { s.adu with nextRsn := some (r + 1) }
        pool := { s.pool with opened := some { o with
          records := o.records ++ [{ rsn := r, timestamp := s.adu.clock.getD 0, payload := d, stream := x.val,
                                     kind := .data, origin := p.val, clockUnset := s.adu.clock.isNone, sync := false }]
          count := o.count + 1, fill := o.fill + (16 + d.length + 7) / 8 * 8 } }
        srt := { s.srt with streams := s.srt.streams.set x { s.stream x with
          count := (s.stream x).count + 1, lastRsn := some r } } })

/-- APPEND whose record needs a new block: a full open block is sealed FULL, a FREE buffer becomes OPEN, R falls by 1, and the
record is the first of the new block, whose seal timer starts (R20, R22, R41, R42, R44, R105). The capacity level is evaluated
with the new R: it stays; or R = 32 makes a LOW level FULL; or it leaves NORMAL for LOW or FULL, EARLY_WARNING with that R and
EW_RESERVE is posted to every port, and the reply behind it carries LOW (R18, R106, R107). For the seal, stated where the engine
is in the middle of a write. That the spare bits of the flags byte may be set is the model's reading (log entry 33). -/
def Obligations.AppendOpensBlock : Prop :=
  ∀ (s u : State) (p : Port) (t : Tag) (x : StreamId) (flags : Byte) (d : List Byte) (r : Nat) (m : Int),
    AtHead s p t → (s.stream x).isOpen = true → Unclaimed s p x → flags.getLsbD 0 = false → d.length ≤ 2000 →
    s.adu.nextRsn = some r → r < 281474976710656 → 0 < s.pool.free → RemainingIs s m →
    (s.pool.opened = none ∨ ∃ o, s.pool.opened = some o ∧ 2016 < o.fill + (16 + d.length + 7) / 8 * 8 ∧ MidWrite s) →
    u = { s with
      ports := (s.answered p t 1 .done (.rsn (some r)) { s.marks with clockUnset := s.adu.clock.isNone })
      adu := { s.adu with nextRsn := some (r + 1) }
      pool := {
        free := s.pool.free - 1
        opened := some {
          records := [{ rsn := r, timestamp := s.adu.clock.getD 0, payload := d, stream := x.val, kind := .data,
                        origin := p.val, clockUnset := s.adu.clock.isNone, sync := false }]
          count := 1, fill := (16 + d.length + 7) / 8 * 8, firstRsn := some r
          sealDelay := s.params.sealDelay, sealTimer := some s.params.sealDelay }
        sealed := s.pool.sealed ++ s.pool.opened.toList.map (fun o =>
          sealedBlock o .full (s.pool.nextBsn.getD 0) (s.vom.session.getD 0) (s.vom.serial.getD 0) s.params.startAge)
        nextBsn := if s.pool.opened = none then s.pool.nextBsn else some (s.pool.nextBsn.getD 0 + 1) }
      vom := { s.vom with remaining := some (m - 1) }
      srt := { s.srt with streams := s.srt.streams.set x { s.stream x with
        count := (s.stream x).count + 1, lastRsn := some r } } } →
    (LevelStays s (m - 1) →
      exec (.append p t ([BitVec.ofNat 8 x.val, flags] ++ beBytes 2 d.length ++ d)) s = .next (driveInhibit u)) ∧
    (m = 33 → s.vom.level = some .low ∨ s.vom.level = some .full →
      exec (.append p t ([BitVec.ofNat 8 x.val, flags] ++ beBytes 2 d.length ++ d)) s = .next (driveInhibit { u with
        vom := { u.vom with level := some .full } })) ∧
    (33 ≤ m → s.vom.level = some .normal → m - 1 ≤ s.params.ewReserve ∨ m = 33 → (s.port p).transmit.length < 11 →
      ∃ v front, exec (.append p t ([BitVec.ofNat 8 x.val, flags] ++ beBytes 2 d.length ++ d)) s = .next v ∧
        v.vom = { u.vom with level := if m = 33 then some .full else some .low } ∧
        (∀ q, v.bodies q = posted (.earlyWarning (m - 1) s.params.ewReserve) (s.bodies q)) ∧
        (v.port p).transmit = front ++ [.reply {
          tag := t, kind := 1, status := .done, body := .rsn (some r)
          indicators := { low := true, clockUnset := s.adu.clock.isNone, already := false, gap := false } }] ∧
        (v.slot p t).state = .idle ∧ v.adu = u.adu ∧ v.pool = u.pool ∧ v.srt = u.srt ∧ v.ape = u.ape ∧ v.mpt = u.mpt ∧
        v.cursors = u.cursors ∧ v.params = u.params)

/-- APPEND that needs a new block while no buffer is FREE: an open block is sealed FULL, and the entry is HELD at the head with its
deadline timer running, its tag QUEUED (R21, R26). When a buffer becomes FREE, here by a verify pass, the HELD head is evaluated
again from its first test: it is refused where a test now refuses it, and else its record starts a new block (R25, R55, R88).
That the spare bits of the flags byte may be set is the model's reading (log entry 33). -/
def Obligations.AppendHeld : Prop :=
  (∀ (s : State) (p : Port) (t : Tag) (x : StreamId) (flags : Byte) (d : List Byte) (m : Int),
    AtHead s p t → (s.stream x).isOpen = true → Unclaimed s p x → d.length ≤ 2000 →
    s.pool.free = 0 → RemainingIs s m → 33 ≤ m →
    (s.pool.opened = none ∨ ∃ o, s.pool.opened = some o ∧ 2016 < o.fill + (16 + d.length + 7) / 8 * 8 ∧ MidWrite s) →
      exec (.append p t ([BitVec.ofNat 8 x.val, flags] ++ beBytes 2 d.length ++ d)) s = .next (driveInhibit { s with
        ports := (s.taken p t {
          state := .queued, rsn := none, reply := none
          frame := some { kind := 1, payload := [BitVec.ofNat 8 x.val, flags] ++ beBytes 2 d.length ++ d } })
        adu := { s.adu with queue := [{
          port := p, tag := t, request := .append x (flags.getLsbD 0) d.length, held := true
          deadline := if s.params.holdLimit = 0 then none else some s.params.holdLimit }] }
        pool := { s.pool with
          opened := none
          sealed := s.pool.sealed ++ s.pool.opened.toList.map (fun o =>
            sealedBlock o .full (s.pool.nextBsn.getD 0) (s.vom.session.getD 0) (s.vom.serial.getD 0) s.params.startAge)
          nextBsn := if s.pool.opened = none then s.pool.nextBsn else some (s.pool.nextBsn.getD 0 + 1) } })) ∧
  ∀ (s u : State) (slot : BitVec 32) (v : Unverified) (later : List Unverified) (e : Entry) (x : StreamId) (flags : Byte)
    (d : List Byte),
    Running s → s.ape.unverified = v :: later → v.slot = slot.toNat → v.passed = false →
    (∀ w, later.head? = some w → w.passed = false) → v.block.waiters = [] → MidWrite s →
    (∀ p, (s.cursor p).state = .closed ∧ (s.cursor p).phase = .idle) → s.pool.opened = none → s.pool.free = 0 →
    s.adu.queue = [e] → e.held = true → e.request = .append x false d.length → flags.getLsbD 0 = false →
    (s.slot e.port e.tag).frame = some { kind := 1, payload := [BitVec.ofNat 8 x.val, flags] ++ beBytes 2 d.length ++ d } →
    d.length ≤ 2000 → CanReply s e.port e.tag →
    u = { s with
      ape := { s.ape with unverified := later }
      pool := { s.pool with free := 1 }
      vom := { s.vom with
        frontier := some v.block.bsn, frontierSlot := some v.slot
        highestRsn := some (v.block.firstRsn + v.block.count - 1) }
      choice := s.choice + 2 } →
    (∀ st, u.writingRefusal e.port e.request = some st →
      exec (.verifyResult slot true) s = .next (driveInhibit { u with
        ports := (s.replied e.port e.tag st .empty { s.marks with clockUnset := s.adu.clock.isNone })
        adu := { s.adu with queue := [] } })) ∧
    (∀ (r : Nat) (m : Int), u.writingRefusal e.port e.request = none → s.adu.nextRsn = some r → RemainingIs s m →
      LevelStays s (m - 1) →
      exec (.verifyResult slot true) s = .next (driveInhibit { u with
        ports := (s.replied e.port e.tag .done (.rsn (some r)) { s.marks with clockUnset := s.adu.clock.isNone })
        adu := { s.adu with queue := [], nextRsn := some (r + 1) }
        pool := { s.pool with
          opened := some {
            records := [{ rsn := r, timestamp := s.adu.clock.getD 0, payload := d, stream := x.val, kind := .data,
                          origin := e.port.val, clockUnset := s.adu.clock.isNone, sync := false }]
            count := 1, fill := (16 + d.length + 7) / 8 * 8, firstRsn := some r
            sealDelay := s.params.sealDelay, sealTimer := some s.params.sealDelay } }
        vom := { u.vom with remaining := some (m - 1) }
        srt := { s.srt with streams := s.srt.streams.set x { s.stream x with
          count := (s.stream x).count + 1, lastRsn := some r } } }))

/-- APPEND with the sync flag set: its record carries the flag, the open block is sealed SYNC, and the request waits on that
block with its recorded RSN (R22, R24, R44, R51). That the spare bits of the flags byte may be set is the model's reading (log
entry 33). -/
def Obligations.SyncAppendWaits : Prop :=
  ∀ (s : State) (p : Port) (t : Tag) (x : StreamId) (flags : Byte) (d : List Byte) (o o' : OpenBlock) (r n : Nat)
    (m : Int),
    AtHead s p t → (s.stream x).isOpen = true → Unclaimed s p x → flags.getLsbD 0 = true → d.length ≤ 2000 →
    s.pool.opened = some o → 0 < o.count → o.fill + (16 + d.length + 7) / 8 * 8 ≤ 2016 →
    s.adu.nextRsn = some r → r < 281474976710656 → s.pool.nextBsn = some n → (∀ b ∈ s.writtenBlocks, b.bsn ≠ n) →
    RemainingIs s m → MidWrite s →
    o' = { o with
      records := o.records ++ [{ rsn := r, timestamp := s.adu.clock.getD 0, payload := d, stream := x.val,
                                 kind := .data, origin := p.val, clockUnset := s.adu.clock.isNone, sync := true }]
      count := o.count + 1, fill := o.fill + (16 + d.length + 7) / 8 * 8 } →
      exec (.append p t ([BitVec.ofNat 8 x.val, flags] ++ beBytes 2 d.length ++ d)) s = .next (driveInhibit { s with
        ports := (s.taken p t {
          state := .waitingDurable, rsn := some r, reply := none
          frame := some { kind := 1, payload := [BitVec.ofNat 8 x.val, flags] ++ beBytes 2 d.length ++ d } })
        adu := { s.adu with nextRsn := some (r + 1) }
        pool := { s.pool with
          opened := none
          sealed := s.pool.sealed ++ [{ sealedBlock o' .sync n (s.vom.session.getD 0) (s.vom.serial.getD 0)
            s.params.startAge with waiters := [(p, t)] }]
          nextBsn := some (n + 1) }
        srt := { s.srt with streams := s.srt.streams.set x { s.stream x with
          count := (s.stream x).count + 1, lastRsn := some r } } })

/-- SYNC: with nothing open and every sealed block durable it is answered DONE at once, with the RSN and the BSN it covers;
otherwise it waits on the block of that BSN, after an open block has been sealed SYNC (R28). -/
def Obligations.SyncRequest : Prop :=
  ∀ (s : State) (p : Port) (t : Tag) (r n : Nat),
    AtHead s p t → s.adu.nextRsn = some (r + 1) →
    (s.pool.opened = none → s.pool.nextBsn = some (n + 1) → (∃ d, s.vom.frontier = some d ∧ n ≤ d) →
      exec (.sync p t []) s = .next (driveInhibit { s with
        ports := (s.answered p t 2 .done (.durable r n none) s.marks) })) ∧
    (s.pool.opened = none → s.pool.nextBsn = some (n + 1) → (∀ d, s.vom.frontier = some d → d < n) → MidWrite s →
      exec (.sync p t []) s = .next (driveInhibit {
        s.mapBlocks (fun b => if b.bsn = n then { b with waiters := b.waiters ++ [(p, t)] } else b) with
        ports := (s.taken p t {
          state := .waitingDurable, rsn := some r, reply := none, frame := some { kind := 2, payload := [] } }) })) ∧
    (∀ (o : OpenBlock) (m : Int), s.pool.opened = some o → s.pool.nextBsn = some n →
      (∀ d, s.vom.frontier = some d → d < n) → (∀ b ∈ s.writtenBlocks, b.bsn ≠ n) → RemainingIs s m → MidWrite s →
      exec (.sync p t []) s = .next (driveInhibit { s with
        ports := (s.taken p t {
          state := .waitingDurable, rsn := some r, reply := none, frame := some { kind := 2, payload := [] } })
        pool := { s.pool with
          opened := none
          sealed := s.pool.sealed ++ [{ sealedBlock o .sync n (s.vom.session.getD 0) (s.vom.serial.getD 0)
            s.params.startAge with waiters := [(p, t)] }]
          nextBsn := some (n + 1) } }))

/-- SET_CLOCK, admitted with a value not below the running clock: the CLOCK_SET record carries the new value as its timestamp and
the old one as its payload, the clock takes the value, and every other port is posted CLOCK_SET (R9, R31). -/
def Obligations.SetClock : Prop :=
  ∀ (s : State) (p : Port) (t : Tag) (v : Nat) (o : OpenBlock) (r : Nat),
    AtHead s p t → (∀ q, q ≠ p → s.srt.volume ≠ some q) → v < 281474976710656 →
    (∀ c, s.adu.clock = some c → c ≤ v) → s.pool.opened = some o → 0 < o.count → o.fill + 24 ≤ 2016 →
    s.adu.nextRsn = some r → r < 281474976710656 →
      ∃ u, exec (.setClock p t (beBytes 6 v)) s = .next u ∧
        u.adu = { s.adu with nextRsn := some (r + 1), clock := some v } ∧
        u.pool = { s.pool with opened := some { o with
          records := o.records ++ [{ rsn := r, timestamp := v, stream := 255, kind := .clockSet, origin := p.val,
                                     clockUnset := false, sync := false,
                                     payload := match s.adu.clock with
                                       | none => List.replicate 8 255
                                       | some c => beBytes 8 c }]
          count := o.count + 1, fill := o.fill + 24 } } ∧
        u.port p = (s.answered p t 3 .done (.rsn (some r)) s.marks)[p] ∧ u.notices p = s.notices p ∧
        (∀ q, q ≠ p → u.bodies q = posted (.clockSet v p) (s.bodies q) ∧ SlotsKept q s u) ∧
        u.params = s.params ∧ u.ctl = s.ctl ∧ u.vom = s.vom ∧ u.ape = s.ape ∧ u.mpt = s.mpt ∧ u.srt = s.srt ∧
        u.cursors = s.cursors

/-- OPEN_STREAM of a CLOSED stream: a STREAM_OPEN record, the stream OPEN, DONE with the RSN; of an OPEN one: DONE with ALREADY,
and nothing else. CLOSE_STREAM of an OPEN stream: a STREAM_CLOSE record with the stream's count and the distance of its last RSN,
the stream CLOSED and its reservation ended (R10, R32, R33, R143, R144). -/
def Obligations.StreamRequests : Prop :=
  ∀ (s : State) (p : Port) (t : Tag) (x : StreamId) (o : OpenBlock) (r : Nat),
    AtHead s p t → (∀ q, q ≠ p → s.srt.volume ≠ some q) → s.pool.opened = some o → 0 < o.count →
    s.adu.nextRsn = some r → r < 281474976710656 →
    ((s.stream x).isOpen = false → o.fill + 16 ≤ 2016 →
      exec (.openStream p t [BitVec.ofNat 8 x.val]) s = .next (driveInhibit { s with
        ports := (s.answered p t 4 .done (.rsn (some r)) s.marks)
        adu := { s.adu with nextRsn := some (r + 1) }
        pool := { s.pool with opened := some { o with
          records := o.records ++ [{ rsn := r, timestamp := s.adu.clock.getD 0, payload := [], stream := x.val,
                                     kind := .streamOpen, origin := p.val, clockUnset := s.adu.clock.isNone,
                                     sync := false }]
          count := o.count + 1, fill := o.fill + 16 } }
        srt := { s.srt with streams := s.srt.streams.set x { s.stream x with isOpen := true } } })) ∧
    ((s.stream x).isOpen = true →
      exec (.openStream p t [BitVec.ofNat 8 x.val]) s = .next (driveInhibit { s with
        ports := (s.answered p t 4 .done .empty { s.marks with already := true }) })) ∧
    ((s.stream x).isOpen = true → (∀ q, q ≠ p → (s.stream x).holder ≠ some q) → o.fill + 24 ≤ 2016 →
      exec (.closeStream p t [BitVec.ofNat 8 x.val]) s = .next (driveInhibit { s with
        ports := (s.answered p t 5 .done (.rsn (some r)) s.marks)
        adu := { s.adu with nextRsn := some (r + 1) }
        pool := { s.pool with opened := some { o with
          records := o.records ++ [{ rsn := r, timestamp := s.adu.clock.getD 0, stream := x.val, kind := .streamClose,
                                     payload := beBytes 4 (s.stream x).count ++
                                       beBytes 4 (match (s.stream x).lastRsn with
                                         | none => 0
                                         | some l => r - l),
                                     origin := p.val, clockUnset := s.adu.clock.isNone, sync := false }]
          count := o.count + 1, fill := o.fill + 24 } }
        srt := { s.srt with streams := s.srt.streams.set x { s.stream x with isOpen := false, holder := none } } }))

/-- DEADLINE_EXPIRY: the entry whose timer runs leaves the queue wherever it stands and is replied STALLED (R26). Where it was the
head, the next entry is evaluated (R17): it is HELD for a buffer in its turn, or, standing alone, refused by a test. An expiry that
belongs to no running timer has no effect, which is the model's reading of a command that cannot come (log entry 4). Left out are
a next head that is admitted, and the entries behind one that is refused. -/
def Obligations.DeadlineExpiry : Prop :=
  ∀ (s u : State) (before : List Entry) (e : Entry) (after : List Entry),
    s.signals = [] → s.adu.queue = before ++ e :: after → (∀ x ∈ before ++ after, ¬(x.port = e.port ∧ x.tag = e.tag)) →
    u = { s with ports := (s.replied e.port e.tag .stalled .empty
      { s.marks with clockUnset := (s.slot e.port e.tag).kindByte == 1 && s.adu.clock.isNone }) } →
    (e.deadline ≠ none → CanReply s e.port e.tag → ∀ queue, QueueAfter s before after queue →
      exec (.deadlineExpiry e.port e.tag) s = .next (driveInhibit { u with adu := { s.adu with queue := queue } })) ∧
    (e.deadline ≠ none → CanReply s e.port e.tag → ∀ (n : Entry) (st : Status), before = [] → after = [n] →
      CanReply u n.port n.tag → s.writingRefusal n.port n.request = some st →
      exec (.deadlineExpiry e.port e.tag) s = .next (driveInhibit { u with
        ports := (u.replied n.port n.tag st .empty
          { s.marks with clockUnset := (s.slot n.port n.tag).kindByte == 1 && s.adu.clock.isNone })
        adu := { s.adu with queue := [] } })) ∧
    (e.deadline = none → exec (.deadlineExpiry e.port e.tag) s = .next (driveInhibit s))

/-- ABORT by the state of its tag: a QUEUED request leaves the queue, a waiter leaves its block's list, a pending REPLAY_NEXT
leaves its cursor, each with a reply ABORTED (a waiter's with its recorded RSN); for an IDLE tag, a REPLYING one and a pending
UNLOAD it is ignored (R34, R112, R133, R168). Where the QUEUED request was the head, the next one is evaluated (R17);
stated for one that is HELD for a buffer in its turn. -/
def Obligations.AbortRequest : Prop :=
  ∀ (s h : State) (p : Port) (t : Tag), Clear s p → h = { s with ports := s.heard p } →
    ((s.slot p t).state = .queued → (s.port p).transmit.length < 12 →
      ∀ (before : List Entry) (e : Entry) (after queue : List Entry), s.adu.queue = before ++ e :: after →
        e.port = p → e.tag = t → (∀ x ∈ before ++ after, ¬(x.port = p ∧ x.tag = t)) → QueueAfter s before after queue →
        exec (.abort p t) s = .next (driveInhibit { s with
          ports := (h.replied p t .aborted .empty
            { s.marks with clockUnset := (s.slot p t).kindByte == 1 && s.adu.clock.isNone })
          adu := { s.adu with queue := queue } })) ∧
    ((s.slot p t).state = .waitingDurable → (s.port p).transmit.length < 12 →
      exec (.abort p t) s = .next (driveInhibit {
        s.mapBlocks (fun b => { b with waiters := b.waiters.filter fun w => w ≠ (p, t) }) with
        ports := (h.replied p t .aborted (.rsn (s.slot p t).rsn)
          { s.marks with clockUnset := (s.slot p t).kindByte == 1 && s.adu.clock.isNone }) })) ∧
    ((s.slot p t).state = .pending → (s.cursor p).next = some t → (s.port p).transmit.length < 12 →
      exec (.abort p t) s = .next (driveInhibit { s with
        ports := (h.replied p t .aborted .empty
          { s.marks with clockUnset := (s.slot p t).kindByte == 1 && s.adu.clock.isNone })
        cursors := s.cursors.set p { s.cursor p with next := none } })) ∧
    ((s.slot p t).state = .idle ∨ (s.slot p t).state = .replying ∨
        ((s.slot p t).state = .pending ∧ (s.cursor p).next ≠ some t) →
      exec (.abort p t) s = .next (driveInhibit h))

/-- JOURNAL_CLOCK_TICK: a set clock counts up one and stands at 2^48 − 1; an unset one stays unset (R30). -/
def Obligations.ClockTick : Prop :=
  ∀ s : State, s.signals = [] →
    exec .journalClockTick s = .next (driveInhibit { s with adu := { s.adu with
      clock := s.adu.clock.map fun c => if c < 281474976710655 then c + 1 else 281474976710655 } })

/-- No step but a part reset unsets the clock or turns it back, whatever command it runs (R30, R31, R37); and none takes it,
or a value that waits to be set, beyond 2^48 − 1. -/
def Obligations.ClockNeverBack : Prop :=
  ∀ s t : State, ClockBounded s → step s = .next t → ClockBounded t ∧
    (s.pending.head? ≠ some .resetNAsserted →
      ∀ c, s.adu.clock = some c → ∃ d, t.adu.clock = some d ∧ c ≤ d)

/-! ## The staging pool and the append engine -/

/-- SEAL_TIMER_EXPIRY: the open block is sealed with cause TIMER, takes the next BSN and joins the tail of the sealed queue with
its header, its CRC, no waiter, its start-age timer running and an attempt count of 0; R stands (R5, R6, R43, R44, R49). With no
open block, or a stopped timer, nothing happens (log entry 4). -/
def Obligations.SealTimer : Prop :=
  ∀ (s : State), s.signals = [] →
    (∀ (o : OpenBlock) (f n ses : Nat) (ser : BitVec 64) (m : Int), s.pool.opened = some o → o.sealTimer ≠ none →
      o.firstRsn = some f → s.pool.nextBsn = some n → s.vom.session = some ses → s.vom.serial = some ser →
      RemainingIs s m → MidWrite s →
      exec .sealTimerExpiry s = .next (driveInhibit { s with
        pool := { s.pool with
          opened := none, nextBsn := some (n + 1)
          sealed := s.pool.sealed ++ [{
            bsn := n, session := ses, cause := .timer, count := o.count, fill := o.fill, firstRsn := f, serial := ser
            crc := crc32 (headerBytes n ses .timer o.count o.fill f ser ++ areaBytes o.records)
            records := o.records, waiters := [], ageTimer := some s.params.startAge, aged := false, attempts := 0 }] } })) ∧
    ((∀ o, s.pool.opened = some o → o.sealTimer = none) → exec .sealTimerExpiry s = .next (driveInhibit s))

/-- START_AGE_EXPIRY at an IDLE engine starts a burst: the engine asks for the grant and gets it; with the head elsewhere it seeks
P, with the head at P it writes the block at the head of the queue there, and P rises (R46, R49, R59, R72, R77 to R79). -/
def Obligations.AgeStartsBurst : Prop :=
  ∀ (s : State) (b : Block) (rest : List Block) (pt c : Nat) (m : Int),
    s.signals = [] → s.pool.sealed = b :: rest → b.ageTimer ≠ none → (∀ x ∈ rest, x.bsn ≠ b.bsn) →
    s.ape.state = .idle → s.ape.inWrite = none → s.ape.unverified.length < 3 → s.ape.yield = false →
    s.vom.state = .ready → s.vom.appendPoint = some pt → s.vom.capacity = some c → pt < c → RemainingIs s m →
    s.mpt.holder = none → s.mpt.link = none → NoneAsks s →
    (s.mpt.head ≠ some pt →
      exec (.startAgeExpiry b.bsn) s = .next (driveInhibit { s with
        pool := { s.pool with sealed := { b with ageTimer := none, aged := true } :: rest }
        ape := { s.ape with state := .positioning }
        mpt := { s.mpt with
          link := some { op := .seek pt, number := s.mpt.nextOp, issuer := .engine }, timer := some 3000, retry := false
          nextOp := s.mpt.nextOp + 1, holder := some .engine, burstLimit := some s.params.burstMax } })) ∧
    (s.mpt.head = some pt →
      exec (.startAgeExpiry b.bsn) s = .next (driveInhibit { s with
        pool := { s.pool with sealed := rest }
        ape := { s.ape with
          state := .running
          inWrite := some { block := { b with ageTimer := none, aged := false }, slot := pt, stale := false } }
        vom := { s.vom with appendPoint := some (pt + 1) }
        mpt := { s.mpt with
          link := some { op := .write pt b.image, number := s.mpt.nextOp, issuer := .engine }, timer := some 3000
          retry := false, nextOp := s.mpt.nextOp + 1, holder := some .engine, burstLimit := some s.params.burstMax
          writes := s.mpt.writes + 1 } }))

/-- WRITTEN: the block becomes UNVERIFIED with its verify timer running, the head stands beyond its slot, and the next block is
written where one waits and fewer than three are unverified. WRITE_ERROR: the block goes back to its place in the queue with one
more attempt, the head position is unset, and the engine seeks P before its next write (R48, R64, R67, R79, R81, R82). With the
yield signal raised the engine gives the grant up at the WRITTEN, goes YIELDED and waits, and the waiting cursor next in turn
after the last-served one is handed the grant, begins its fill and seeks its read position (R72 to R74, R91, R125); that the signal
is down after the release is the model's reading (log entry 16). Of a write marked stale neither completion counts: the block goes
back to its place in BSN order with its attempt count as it was, R falls by 1, and the engine makes its write check (R48, R83). -/
def Obligations.WriteEnds : Prop :=
  ∀ (s : State) (k : Byte) (n : Nat) (bytes : List Byte) (b : Block) (slot pt c : Nat) (m : Int) (stale : Bool),
    s.signals = [] → s.mpt.link = some { op := .write n bytes, number := k, issuer := .engine } →
    s.mpt.holder = some .engine → s.ape.state = .running →
    s.ape.inWrite = some { block := b, slot := slot, stale := stale } → s.vom.state = .ready →
    s.vom.appendPoint = some pt → s.vom.capacity = some c → pt < c → RemainingIs s m →
    (stale = false → NoneAsks s → s.ape.yield = false → s.pool.sealed = [] →
      exec (.written k) s = .next (driveInhibit { s with
        mpt := { s.mpt with link := none, timer := none, retry := false, head := some (n + 1) }
        ape := { s.ape with
          inWrite := none
          unverified := s.ape.unverified ++ [{ block := b, slot := slot, timer := some 500, passed := false }] } })) ∧
    (∀ (x : Block) (rest : List Block), stale = false → NoneAsks s → s.ape.yield = false → s.pool.sealed = x :: rest →
      s.ape.unverified.length < 2 → pt = n + 1 →
      exec (.written k) s = .next (driveInhibit { s with
        pool := { s.pool with sealed := rest }
        vom := { s.vom with appendPoint := some (pt + 1) }
        mpt := { s.mpt with
          link := some { op := .write pt x.image, number := s.mpt.nextOp, issuer := .engine }, timer := some 3000
          retry := false, nextOp := s.mpt.nextOp + 1, head := some (n + 1), writes := s.mpt.writes + 1 }
        ape := { s.ape with
          inWrite := some { block := { x with ageTimer := none, aged := false }, slot := pt, stale := false }
          unverified := s.ape.unverified ++ [{ block := b, slot := slot, timer := some 500, passed := false }] } })) ∧
    (stale = false → NoneAsks s → s.ape.yield = false → b.attempts + 1 < 10 → (∀ x ∈ s.pool.sealed, b.bsn ≤ x.bsn) →
      s.ape.unverified.length < 3 → LevelStays s (m - 1) →
      exec (.writeError k) s = .next (driveInhibit { s with
        pool := { s.pool with sealed := { b with attempts := b.attempts + 1 } :: s.pool.sealed }
        vom := { s.vom with remaining := some (m - 1) }
        mpt := { s.mpt with
          link := some { op := .seek pt, number := s.mpt.nextOp, issuer := .engine }, timer := some 3000
          retry := false, nextOp := s.mpt.nextOp + 1, head := none }
        ape := { s.ape with state := .positioning, inWrite := none } })) ∧
    (∀ (q : Port) (j l d sd : Nat), stale = false → s.ape.yield = true → s.mpt.volumeWaits = false →
      s.mpt.engineWaits = false →
      s.mpt.burstLimit = some l → l ≤ s.mpt.writes → s.mpt.cursorWaits[q] = true →
      (∀ r : Port, s.mpt.cursorWaits[r] = true → (q - s.mpt.lastServed - 1).val ≤ (r - s.mpt.lastServed - 1).val) →
      (s.cursor q).phase = .asking → (s.cursor q).readPos = some j → j ≠ n + 1 →
      (s.cursor q).buffered.length < s.params.readahead → s.vom.frontier = some d → s.vom.frontierSlot = some sd → j ≤ sd →
      (∀ h, (s.cursor q).hold = some h → h ≤ d) →
      exec (.written k) s = .next (driveInhibit { s with
        ape := {
          state := .yielded, inWrite := none, yield := false
          unverified := s.ape.unverified ++ [{ block := b, slot := slot, timer := some 500, passed := false }] }
        mpt := { s.mpt with
          link := some { op := .seek j, number := s.mpt.nextOp, issuer := .cursor q }, timer := some 3000, retry := false
          nextOp := s.mpt.nextOp + 1, head := some (n + 1), holder := some (.cursor q), engineWaits := true
          cursorWaits := s.mpt.cursorWaits.set q false, writes := 0, burstLimit := some s.params.burstMax
          lastServed := q }
        cursors := s.cursors.set q { s.cursor q with phase := .reading, reads := 0, inUse := some s.params.readahead } })) ∧
    (∀ (before after rest : List Block) (x : Block), stale = true → NoneAsks s → s.ape.yield = false →
      s.pool.sealed = before ++ after → (∀ y ∈ before, y.bsn < b.bsn) → (∀ y ∈ after, b.bsn ≤ y.bsn) →
      before ++ b :: after = x :: rest → s.ape.unverified.length < 3 → LevelStays s (m - 1) →
      (pt = n + 1 →
        exec (.written k) s = .next (driveInhibit { s with
          pool := { s.pool with sealed := rest }
          vom := { s.vom with appendPoint := some (pt + 1), remaining := some (m - 1) }
          mpt := { s.mpt with
            link := some { op := .write pt x.image, number := s.mpt.nextOp, issuer := .engine }, timer := some 3000
            retry := false, nextOp := s.mpt.nextOp + 1, head := some (n + 1), writes := s.mpt.writes + 1 }
          ape := { s.ape with
            inWrite := some { block := { x with ageTimer := none, aged := false }, slot := pt, stale := false } } })) ∧
      exec (.writeError k) s = .next (driveInhibit { s with
        pool := { s.pool with sealed := x :: rest }
        vom := { s.vom with remaining := some (m - 1) }
        mpt := { s.mpt with
          link := some { op := .seek pt, number := s.mpt.nextOp, issuer := .engine }, timer := some 3000
          retry := false, nextOp := s.mpt.nextOp + 1, head := none }
        ape := { s.ape with state := .positioning, inWrite := none } }))

/-- VERIFY_RESULT, a pass. For the first entry of the unverified list: that entry and every next one that carries the passed mark
become durable together; D, S_D and the highest durable RSN are those of the last of them, and their buffers are FREE. For a later
entry: it takes the passed mark. For an unknown slot or an entry passed already: no effect (R84, R88, R89, R97). Every sync waiter
of the durable blocks is replied DONE with its recorded RSN, the BSN and the slot of its block, block by block in list order (R29,
R89). Where that was the last of the engine's work, its burst ends: RUNNING, it releases the grant, YIELDED, it withdraws its
request, and it is IDLE; and in DRAINING with no open block the drain ends with it: the volume is EJECTING, and the EJECT is
issued with the grant, or the Volume Manager waits for the grant (R90, R92, R110). That no notice moves, in the clause about
waiters, is said of a state in which nothing waits for room that is there. -/
def Obligations.VerifyPasses : Prop :=
  ∀ (s : State) (slot : BitVec 32) (u : Unverified) (run later : List Unverified), Running s →
    s.ape.unverified = u :: (run ++ later) →
    (u.slot = slot.toNat → u.passed = false → (∀ v ∈ run, v.passed = true) → (∀ v, later.head? = some v → v.passed = false) →
      (∀ v ∈ u :: run, v.block.waiters = []) → (∀ p, (s.cursor p).state = .closed ∧ (s.cursor p).phase = .idle) →
      NoneWaits s → MidWrite s →
      exec (.verifyResult slot true) s = .next (driveInhibit { s with
        ape := { s.ape with unverified := later }
        pool := { s.pool with free := s.pool.free + (1 + run.length) }
        vom := { s.vom with
          frontier := some (run.getLastD u).block.bsn, frontierSlot := some (run.getLastD u).slot
          highestRsn := some ((run.getLastD u).block.firstRsn + (run.getLastD u).block.count - 1) }
        choice := s.choice + 2 })) ∧
    (u.slot = slot.toNat → u.passed = false → (∀ v ∈ run, v.passed = true) → (∀ v, later.head? = some v → v.passed = false) →
      (∀ p, (s.cursor p).state = .closed ∧ (s.cursor p).phase = .idle) → NoneWaits s → MidWrite s → PlacedAtOnce s →
      ∃ t, exec (.verifyResult slot true) s = .next t ∧ t.ape = { s.ape with unverified := later } ∧
        t.pool = { s.pool with free := s.pool.free + (1 + run.length) } ∧
        t.vom = { s.vom with
          frontier := some (run.getLastD u).block.bsn, frontierSlot := some (run.getLastD u).slot
          highestRsn := some ((run.getLastD u).block.firstRsn + (run.getLastD u).block.count - 1) } ∧
        t.adu = s.adu ∧ t.mpt = s.mpt ∧ t.srt = s.srt ∧ t.ntu = s.ntu ∧ t.cursors = s.cursors ∧ t.params = s.params ∧
        ∀ p tags, tags = waiterTags p ((u :: run).map fun v => v.block) → RepliesFit s p tags 0 →
          Replied p tags ((u :: run).flatMap fun v => (waiterTags p [v.block]).map fun x =>
            s.replyTo p .done (.durable ((s.slot p x).rsn.getD 0) v.block.bsn (some v.slot)) s.low x) s t) ∧
    (∀ v : State, u.slot = slot.toNat → u.passed = false → (∀ w ∈ run, w.passed = true) → later = [] →
      (∀ w ∈ u :: run, w.block.waiters = []) → (∀ p, (s.cursor p).state = .closed ∧ (s.cursor p).phase = .idle) →
      NoneWaits s → s.pool.sealed = [] → s.ape.inWrite = none →
      v = { s with
        ape := { state := .idle, unverified := [], inWrite := none, yield := false }
        pool := { s.pool with free := s.pool.free + (1 + run.length) }
        vom := { s.vom with
          frontier := some (run.getLastD u).block.bsn, frontierSlot := some (run.getLastD u).slot
          highestRsn := some ((run.getLastD u).block.firstRsn + (run.getLastD u).block.count - 1) }
        choice := s.choice + 2 } →
      (s.ape.state = .running → s.mpt.holder = some .engine → s.mpt.link = none → NoneAsks s →
        exec (.verifyResult slot true) s = .next (driveInhibit (
          if s.vom.state = .draining ∧ s.pool.opened = none then
            { v with
              vom := { v.vom with state := .ejecting }
              mpt := { s.mpt with
                link := some { op := .eject, number := s.mpt.nextOp, issuer := .volume }, timer := some 3000, retry := false
                nextOp := s.mpt.nextOp + 1, holder := some .volume, burstLimit := some s.params.burstMax } }
          else { v with mpt := { s.mpt with holder := none } }))) ∧
      (s.ape.state = .yielded → s.mpt.holder = none → s.mpt.link ≠ none → (∀ q : Port, s.mpt.cursorWaits[q] = false) →
        exec (.verifyResult slot true) s = .next (driveInhibit (
          if s.vom.state = .draining ∧ s.pool.opened = none then
            { v with
              vom := { v.vom with state := .ejecting }
              mpt := { s.mpt with engineWaits := false, volumeWaits := true } }
          else { v with mpt := { s.mpt with engineWaits := false } })))) ∧
    (∀ (v : Unverified) (after : List Unverified), later = v :: after → v.slot = slot.toNat → v.passed = false →
      (∀ x ∈ u :: run, x.slot ≠ slot.toNat) →
      exec (.verifyResult slot true) s = .next (driveInhibit { s with
        ape := { s.ape with unverified := u :: (run ++ { v with passed := true, timer := none } :: after) } })) ∧
    ((∀ x, s.ape.unverified.find? (fun v => v.slot == slot.toNat) = some x → x.passed = true) →
      ∀ pass, exec (.verifyResult slot pass) s = .next (driveInhibit s))

/-- A failed verify and the expiry of a verify timer relocate: the block of the entry and those of all later entries go back to
the head of the sealed queue in their order, the first with one more attempt, the write in hand is marked stale, and R falls
by their number (R47, R85, R87, R105). Stated while the engine is in the middle of a write and the level stays. -/
def Obligations.VerifyRelocates : Prop :=
  ∀ (s : State) (slot : BitVec 32) (before : List Unverified) (u : Unverified) (later : List Unverified) (m : Int),
    Running s → s.ape.unverified = before ++ u :: later → u.slot = slot.toNat → (∀ x ∈ before, x.slot ≠ slot.toNat) →
    u.block.attempts + 1 < 10 → MidWrite s → s.vom.counting = true → RemainingIs s m →
    LevelStays s (m - (1 + later.length)) →
    (u.passed = false →
      exec (.verifyResult slot false) s = .next (driveInhibit { s with
        ape := { s.ape with unverified := before, inWrite := s.ape.inWrite.map fun w => { w with stale := true } }
        pool := { s.pool with sealed :=
          { u.block with attempts := u.block.attempts + 1 } :: later.map (fun v => v.block) ++ s.pool.sealed }
        vom := { s.vom with remaining := some (m - (1 + later.length)) } })) ∧
    (u.timer ≠ none →
      exec (.verifyTimerExpiry slot.toNat) s = .next (driveInhibit { s with
        ape := { s.ape with unverified := before, inWrite := s.ape.inWrite.map fun w => { w with stale := true } }
        pool := { s.pool with sealed :=
          { u.block with attempts := u.block.attempts + 1 } :: later.map (fun v => v.block) ++ s.pool.sealed }
        vom := { s.vom with remaining := some (m - (1 + later.length)) } }))

/-- The tenth failure of a block faults the volume: FAULTED with cause ATTEMPTS, the queued requests refused WRITE_FAILED, every
staged buffer FREE, every staged record counted as lost, the engine IDLE without the grant, and WRITE_FAILED posted to every port
(R36, R56, R86, R94, R113). A write check that finds a block to write and no slot left, P = C, faults it in the same way with cause
NO_SPACE; there the sync waiters are said too, which are replied LOST with their recorded RSN (R29, R80, R94, R165). That a
refusal carries no value, and that LOW is set in FAULTED by the level that was frozen, are the model's readings (log entries 32 and
15). Stated with no pending UNLOAD, no STARVED cursor and no other client waiting, and the first clause with no waiter. -/
def Obligations.TenthFailureFaults : Prop :=
  ∀ (s : State) (lost : Nat), Running s → s.vom.state = .ready → s.vom.unload = none → s.vom.lost = some lost →
    (∀ p, (s.cursor p).phase ≠ .starved) → NoneAsks s → s.mpt.holder = some .engine →
    (∀ (slot : BitVec 32) (before : List Unverified) (u : Unverified) (later : List Unverified) (m : Int),
      s.ape.unverified = before ++ u :: later → u.slot = slot.toNat → (∀ x ∈ before, x.slot ≠ slot.toNat) →
      RemainingIs s m → LevelStays s (m - (1 + later.length)) → u.passed = false → u.block.attempts = 9 →
      s.mpt.link = none → (∀ b ∈ s.writtenBlocks, b.waiters = []) →
      ∃ t, exec (.verifyResult slot false) s = .next t ∧ WriteFaulted .attempts lost s t ∧
        t.mpt = { s.mpt with holder := none }) ∧
    (∀ (k : Byte) (n c : Nat) (bytes : List Byte) (w : InWrite),
      s.mpt.link = some { op := .write n bytes, number := k, issuer := .engine } → s.ape.state = .running →
      s.ape.inWrite = some w → w.stale = false → s.ape.yield = false → s.ape.unverified.length < 2 → s.pool.sealed ≠ [] →
      s.vom.appendPoint = some c → s.vom.capacity = some c →
      ∃ t, exec (.written k) s = .next t ∧ WriteFaulted .noSpace lost s t ∧
        t.mpt = { s.mpt with link := none, timer := none, retry := false, head := some (n + 1), holder := none })

/-- Every step divides the 48 buffers exactly among the six states of Table 3-1, with IN_WRITE and UNVERIFIED together never more
than three (R39, R76). -/
def Obligations.BuffersDividedKept : Prop :=
  ∀ s t : State, step s = .next t → (BuffersKept s → BuffersKept t) ∧ (WritesBounded s → WritesBounded t)

/-! ## The medium port -/

/-- A completion is accepted only with the number and the kind of the outstanding operation; every other one, and a drive
message that is corrupt, is discarded without effect (R60). -/
def Obligations.CompletionsDiscarded : Prop :=
  ∀ (s : State) (n : Byte), s.signals = [] →
    exec .driveMessageCorrupt s = .next (driveInhibit s) ∧
    ((∀ o, s.mpt.link = some o → o.number = n → o.op ≠ .mount) →
      (∀ cap ser m, exec (.mounted n cap ser m) s = .next (driveInhibit s)) ∧
      exec (.noMedium n) s = .next (driveInhibit s) ∧ exec (.mountError n) s = .next (driveInhibit s)) ∧
    ((∀ o, s.mpt.link = some o → o.number = n → o.op ≠ .findEnd) →
      (∀ e, exec (.endFound n e) s = .next (driveInhibit s)) ∧ exec (.endError n) s = .next (driveInhibit s)) ∧
    ((∀ o, s.mpt.link = some o → o.number = n → ∀ k, o.op ≠ .seek k) →
      exec (.seekDone n) s = .next (driveInhibit s) ∧ exec (.seekError n) s = .next (driveInhibit s)) ∧
    ((∀ o, s.mpt.link = some o → o.number = n → ∀ k b, o.op ≠ .write k b) →
      exec (.written n) s = .next (driveInhibit s) ∧ exec (.writeError n) s = .next (driveInhibit s)) ∧
    ((∀ o, s.mpt.link = some o → o.number = n → ∀ k, o.op ≠ .read k) →
      (∀ bytes, exec (.readDone n bytes) s = .next (driveInhibit s)) ∧ exec (.blank n) s = .next (driveInhibit s) ∧
      exec (.readError n) s = .next (driveInhibit s)) ∧
    ((∀ o, s.mpt.link = some o → o.number = n → o.op ≠ .eject) →
      exec (.ejected n) s = .next (driveInhibit s) ∧ exec (.ejectError n) s = .next (driveInhibit s))

/-- OPERATION_TIMER_EXPIRY: an operation other than WRITE_SLOT is issued once more under a new number with the retry flag set; a
retried one is a drive fault; a WRITE_SLOT ends as by WRITE_ERROR; the MOUNT of the start-up test fails the test. An accepted
END_ERROR, SEEK_ERROR or EJECT_ERROR, and an END_FOUND beyond C, are drive faults (R61 to R64, R66, R68, R69, R179). -/
def Obligations.OperationFails : Prop :=
  ∀ (s : State) (o : Outstanding), s.signals = [] → s.mpt.link = some o →
    ((∀ n b, o.op ≠ .write n b) → o.issuer ≠ .control → s.mpt.timer ≠ none → s.mpt.retry = false →
      exec .operationTimerExpiry s = .next (driveInhibit { s with mpt := { s.mpt with
        link := some { o with number := s.mpt.nextOp }, timer := some 3000, retry := true
        nextOp := s.mpt.nextOp + 1 } })) ∧
    ((∀ n b, o.op ≠ .write n b) → o.issuer ≠ .control → s.mpt.timer ≠ none → s.mpt.retry = true →
      s.ctl.test = .running → ∃ t, exec .driveFault s = .next t ∧ exec .operationTimerExpiry s = .next t) ∧
    ((∃ n b, o.op = .write n b) → s.mpt.timer ≠ none →
      ∃ t, exec (.writeError o.number) s = .next t ∧ exec .operationTimerExpiry s = .next t) ∧
    ((∀ n b, o.op ≠ .write n b) → o.issuer = .control → s.mpt.timer ≠ none →
      exec .operationTimerExpiry s = .next (driveInhibit { s with
        mpt := { s.mpt with link := none, timer := none, retry := false, head := none }
        ctl := { s.ctl with test := .halted, faultLine := true } })) ∧
    (s.ctl.test = .running →
      (o.op = .findEnd → ∃ t, exec .driveFault s = .next t ∧ exec (.endError o.number) s = .next t) ∧
      (o.op = .findEnd → ∀ (e : BitVec 32) (c : Nat), s.vom.capacity = some c → c < e.toNat →
        ∃ t, exec .driveFault s = .next t ∧ exec (.endFound o.number e) s = .next t) ∧
      ((∃ n, o.op = .seek n) → ∃ t, exec .driveFault s = .next t ∧ exec (.seekError o.number) s = .next t) ∧
      (o.op = .eject → ∃ t, exec .driveFault s = .next t ∧ exec (.ejectError o.number) s = .next t))

/-- DRIVE_FAULT: the drive's operation, the head position, the grant and the requests for it are gone; the volume is FAULTED with
cause DRIVE and keeps its serial; the table is cleared and the next numbers are unset; what was staged is lost, counted and
reported, and its buffers are FREE; every port is told (R45, R56, R69, R71, R94, R116, R153). That a drive fault in REJECTED keeps
the rejection reason is the model's reading (log entry 25). Stated with no cursor open, no waiter, an empty admission queue and no
UNLOAD pending. In phase 3 of the start-up test it fails the test (R179). -/
def Obligations.DriveFault : Prop :=
  ∀ s : State, s.signals = [] →
    (s.ctl.test = .running → s.adu.queue = [] → s.vom.unload = none → (∀ b ∈ s.writtenBlocks, b.waiters = []) →
      (∀ p, ((s.cursor p).state = .closed ∨ (s.cursor p).state = .failed) ∧ (s.cursor p).phase = .idle) →
      (∀ o, s.mpt.link = some o → o.holdsBuffer = false) →
      (s.vom.state = .none ∨ (s.vom.state = .faulted ∧ s.vom.cause = some .drive) →
        exec .driveFault s = .next (driveInhibit { s with
          mpt := { s.mpt with
            link := none, timer := none, retry := false, head := none, holder := none, volumeWaits := false
            engineWaits := false, cursorWaits := PortSet.empty, writes := 0 }
          ape := { s.ape with yield := false } })) ∧
      (s.vom.state ≠ .none → ¬(s.vom.state = .faulted ∧ s.vom.cause = some .drive) →
        ∃ t, exec .driveFault s = .next t ∧
          t.vom = { VolumeRecord.unset .faulted with
            cause := some .drive, reason := s.vom.reason, serial := s.vom.serial
            lost := if s.vom.counting then some (s.vom.lost.getD 0 + s.stagedRecords) else s.vom.lost } ∧
          t.mpt = { s.mpt with
            link := none, timer := none, retry := false, head := none, holder := none, volumeWaits := false
            engineWaits := false, cursorWaits := PortSet.empty, writes := 0 } ∧
          t.srt = Claims.reset ∧ t.adu = { s.adu with nextRsn := none } ∧
          t.pool = (if s.vom.counting then
              { free := s.pool.free + s.staged, opened := none, sealed := [], nextBsn := none }
            else { s.pool with nextBsn := none }) ∧
          t.ape = (if s.vom.counting then { state := .idle, unverified := [], inWrite := none, yield := false }
            else { s.ape with yield := false }) ∧
          (∀ p, t.bodies p = posted (.volumeGone .drive s.vom.highestRsn 0)
            (if s.vom.counting then posted (.writeFailed .drive s.stagedRecords) (s.bodies p) else s.bodies p)) ∧
          t.cursors = s.cursors ∧ t.params = s.params)) ∧
    (s.ctl.test = .phase3 → (∀ o, s.mpt.link = some o → o.holdsBuffer = false) →
      exec .driveFault s = .next (driveInhibit { s with
        ctl := { s.ctl with test := .halted, faultLine := true }
        mpt := { s.mpt with
          link := none, timer := none, retry := false, head := none, holder := none, volumeWaits := false
          engineWaits := false, cursorWaits := PortSet.empty, writes := 0 }
        ape := { s.ape with yield := false } }))

/-! ## Volumes -/

/-- CARTRIDGE_INSERTED: in NONE, with the link and the grant free, the mount begins; in every other state it has no effect (R70,
R98). The completions of the Volume Manager's MOUNT: a WRITE_ONCE cartridge of a lawful capacity goes on to the end search with
its serial and C recorded; any other is REJECTED with its reason, the grant goes, and every port is told; NO_MEDIUM leaves no
volume (R61, R67, R99, R100). That the end-search scratch stands where no volume is left is the model's choice (log entry 35). -/
def Obligations.Mounts : Prop :=
  ∀ s : State,
    (Running s → s.vom.state = .none → s.mpt.holder = none → s.mpt.link = none → s.mpt.volumeWaits = false →
      exec .cartridgeInserted s = .next (driveInhibit { s with
        vom := { s.vom with state := .mounting }
        mpt := { s.mpt with
          link := some { op := .mount, number := s.mpt.nextOp, issuer := .volume }, timer := some 3000, retry := false
          nextOp := s.mpt.nextOp + 1, holder := some .volume, burstLimit := some s.params.burstMax } })) ∧
    (Running s → s.vom.state ≠ .none → exec .cartridgeInserted s = .next (driveInhibit s)) ∧
    ∀ (k : Byte) (cap : BitVec 32) (ser : BitVec 64),
      s.signals = [] → s.vom.state = .mounting → s.mpt.link = some { op := .mount, number := k, issuer := .volume } →
      s.mpt.holder = some .volume → NoneAsks s →
      (4096 ≤ cap.toNat → cap.toNat ≤ 16777216 →
        exec (.mounted k cap ser .writeOnce) s = .next (driveInhibit { s with
          vom := { s.vom with state := .seekingEnd, serial := some ser, capacity := some cap.toNat }
          mpt := { s.mpt with
            link := some { op := .findEnd, number := s.mpt.nextOp, issuer := .volume }, timer := some 3000, retry := false
            nextOp := s.mpt.nextOp + 1, head := some 0 } })) ∧
      (∀ (m : MediumKind) (reason : RejectReason),
        (m = .other ∧ reason = .notWriteOnce) ∨
          (m = .writeOnce ∧ (cap.toNat < 4096 ∨ 16777216 < cap.toNat) ∧ reason = .capacity) →
        ∃ t, exec (.mounted k cap ser m) s = .next t ∧
          t.vom = { s.vom with
            state := .rejected, reason := some reason, serial := some ser, capacity := some cap.toNat, appendPoint := none } ∧
          t.mpt = { s.mpt with link := none, timer := none, retry := false, head := some 0, holder := none } ∧
          (∀ p, t.bodies p = posted (.volumeRejected reason) (s.bodies p)) ∧
          t.adu = s.adu ∧ t.pool = s.pool ∧ t.ape = s.ape ∧ t.cursors = s.cursors ∧ t.srt = s.srt) ∧
      (∃ t, exec (.mountError k) s = .next t ∧
        t.vom = { s.vom with state := .rejected, reason := some .mountError, appendPoint := none } ∧
        t.mpt = { s.mpt with link := none, timer := none, retry := false, head := none, holder := none } ∧
        (∀ p, t.bodies p = posted (.volumeRejected .mountError) (s.bodies p)) ∧
        t.adu = s.adu ∧ t.pool = s.pool ∧ t.ape = s.ape ∧ t.cursors = s.cursors ∧ t.srt = s.srt) ∧
      exec (.noMedium k) s = .next (driveInhibit { s with
        vom := VolumeRecord.unset .none
        mpt := { s.mpt with link := none, timer := none, retry := false, head := none, holder := none } })

/-- END_FOUND within C: on a blank volume session 1 starts, its SESSION_START record RSN 1 in a block of its own, and the volume
is READY at level NORMAL with R = C − 1; otherwise P is set and the tail read begins with a SEEK to slot e − 32, or 0 (R62, R67,
R101, R102, R104, R145). That the scratch begins the tail read with an empty image is the model's choice (log entry 35). -/
def Obligations.EndFound : Prop :=
  ∀ (s : State) (k : Byte) (e : BitVec 32) (c : Nat) (ser : BitVec 64),
    s.signals = [] → s.vom.state = .seekingEnd → s.mpt.link = some { op := .findEnd, number := k, issuer := .volume } →
    s.mpt.holder = some .volume → NoneAsks s → s.vom.capacity = some c → s.vom.serial = some ser → e.toNat ≤ c →
    (0 < e.toNat →
      exec (.endFound k e) s = .next (driveInhibit { s with
        vom := { s.vom with appendPoint := some e.toNat }
        scratch := { slot := some (e.toNat - 32), image := [], best := none, highest := none }
        mpt := { s.mpt with
          link := some { op := .seek (e.toNat - 32), number := s.mpt.nextOp, issuer := .volume }, timer := some 3000
          retry := false, nextOp := s.mpt.nextOp + 1, head := some e.toNat } })) ∧
    (e.toNat = 0 → s.pool.opened = none → s.pool.sealed = [] → 0 < s.pool.free → s.vom.remaining = none →
      33 < c → s.params.ewReserve < c - 1 →
      ∃ t, exec (.endFound k e) s = .next t ∧
        t.vom = { s.vom with
          state := .ready, appendPoint := some 0, remaining := some ((c : Int) - 1), level := some .normal
          session := some 1, frontier := none, frontierSlot := none, highestRsn := none, lost := some 0 } ∧
        t.adu = { s.adu with nextRsn := some 2 } ∧
        t.pool = {
          free := s.pool.free - 1, sealed := [], nextBsn := some 0
          opened := some {
            records := [{ rsn := 1, timestamp := s.adu.clock.getD 0
                          payload := beBytes 2 1 ++ beBytes 4 c ++ beBytes 8 ser.toNat ++ [0, 0]
                          stream := 255, kind := .sessionStart, origin := 7, clockUnset := s.adu.clock.isNone
                          sync := false }]
            count := 1, fill := 32, firstRsn := some 1
            sealDelay := s.params.sealDelay, sealTimer := some s.params.sealDelay } } ∧
        t.mpt = { s.mpt with link := none, timer := none, retry := false, head := some 0, holder := none } ∧
        t.srt = { s.srt with streams := Vector.replicate 16 StreamEntry.reset } ∧
        (∀ p, t.bodies p = posted (.volumeLoaded ser 1 c 0 1) (s.bodies p)) ∧
        t.ape = s.ape ∧ t.cursors = s.cursors ∧ t.params = s.params)

/-- SEEK_DONE sets the head position and goes to its client: the Volume Manager reads the first slot of the window, the engine
writes at P, a filling cursor reads its position when the pool grants a buffer (R53, R54, R63, R67, R78, R79, R102, R125). Where
the pool refuses the take, the cursor gives the grant up and is STARVED, or IDLE where the fill check's conditions no longer hold
(R124, R126); an engine that YIELDED and waits is handed the grant and seeks P (R72, R78, R92). That a STARVED cursor does not ask
again at once is the model's reading (log entry 12). For a cursor that has been closed or reopened since, the completion touches no
cursor and issues nothing; a hand-over that waited for the link takes place, here to the Volume Manager, which ejects (R72, R110,
R136). -/
def Obligations.SeekDone : Prop :=
  ∀ (s : State) (k : Byte) (n : Nat) (issuer : Issuer), s.signals = [] →
    s.mpt.link = some { op := .seek n, number := k, issuer := issuer } →
    (∀ w, NoneAsks s → issuer = .volume → s.mpt.holder = some .volume → s.vom.state = .seekingEnd → s.scratch.slot = some w →
      exec (.seekDone k) s = .next (driveInhibit { s with mpt := { s.mpt with
        link := some { op := .read w, number := s.mpt.nextOp, issuer := .volume }, timer := some 3000, retry := false
        nextOp := s.mpt.nextOp + 1, head := some n } })) ∧
    (∀ (b : Block) (rest : List Block) (c : Nat) (m : Int), NoneAsks s → issuer = .engine → s.mpt.holder = some .engine →
      s.ape.state = .positioning → s.ape.inWrite = none → s.ape.unverified.length < 3 → s.ape.yield = false →
      s.pool.sealed = b :: rest → s.vom.appendPoint = some n → s.vom.capacity = some c → n < c → RemainingIs s m →
      exec (.seekDone k) s = .next (driveInhibit { s with
        pool := { s.pool with sealed := rest }
        vom := { s.vom with appendPoint := some (n + 1) }
        mpt := { s.mpt with
          link := some { op := .write n b.image, number := s.mpt.nextOp, issuer := .engine }, timer := some 3000
          retry := false, nextOp := s.mpt.nextOp + 1, head := some n, writes := s.mpt.writes + 1 }
        ape := { s.ape with
          state := .running
          inWrite := some { block := { b with ageTimer := none, aged := false }, slot := n, stale := false } } })) ∧
    (∀ (p : Port) (i d sd : Nat), NoneAsks s → issuer = .cursor p → s.mpt.holder = some (.cursor p) →
      (s.cursor p).phase = .reading → (s.cursor p).readPos = some n → (s.cursor p).inUse = some i →
      (s.cursor p).buffered.length < i → (s.cursor p).reads < 8 → s.vom.frontier = some d →
      s.vom.frontierSlot = some sd → n ≤ sd → (∀ h, (s.cursor p).hold = some h → h ≤ d) →
      s.params.stagingFloor + 1 ≤ s.pool.free → s.replayCount < s.params.replayLimit →
      exec (.seekDone k) s = .next (driveInhibit { s with
        pool := { s.pool with free := s.pool.free - 1 }
        cursors := s.cursors.set p { s.cursor p with inFlight := true, reads := (s.cursor p).reads + 1 }
        mpt := { s.mpt with
          link := some { op := .read n, number := s.mpt.nextOp, issuer := .cursor p }, timer := some 3000, retry := false
          nextOp := s.mpt.nextOp + 1, head := some n } })) ∧
    (∀ (p : Port) (i d sd : Nat) (v : State), issuer = .cursor p → s.mpt.holder = some (.cursor p) →
      (s.cursor p).phase = .reading → (s.cursor p).readPos = some n → (s.cursor p).inUse = some i →
      (s.cursor p).buffered.length < i → (s.cursor p).reads < 8 → s.vom.frontier = some d →
      s.vom.frontierSlot = some sd → n ≤ sd → (∀ h, (s.cursor p).hold = some h → h ≤ d) →
      s.vom.state = .ready ∨ s.vom.state = .draining →
      (s.cursor p).state = (if (s.cursor p).buffered = [] then .filling else .ready) →
      ¬(s.params.stagingFloor + 1 ≤ s.pool.free ∧ s.replayCount < s.params.replayLimit) →
      v = { s with
        cursors := s.cursors.set p { s.cursor p with
          phase := if (s.cursor p).buffered.length < 2 ∧ (s.cursor p).buffered.length < s.params.readahead then .starved
            else .idle }
        mpt := { s.mpt with link := none, timer := none, retry := false, head := some n, holder := none } } →
      (NoneAsks s → exec (.seekDone k) s = .next (driveInhibit v)) ∧
      (∀ pt c : Nat, s.mpt.volumeWaits = false → s.mpt.engineWaits = true → (∀ q : Port, s.mpt.cursorWaits[q] = false) →
        s.ape.state = .yielded → s.pool.sealed ≠ [] → s.vom.appendPoint = some pt → s.vom.capacity = some c → pt < c →
        n ≠ pt →
        exec (.seekDone k) s = .next (driveInhibit { v with
          ape := { s.ape with state := .positioning }
          mpt := { v.mpt with
            link := some { op := .seek pt, number := s.mpt.nextOp, issuer := .engine }, timer := some 3000
            nextOp := s.mpt.nextOp + 1, holder := some .engine, engineWaits := false
            burstLimit := some s.params.burstMax } }))) ∧
    (∀ p : Port, issuer = .closedCursor p →
      (NoneAsks s →
        exec (.seekDone k) s = .next (driveInhibit { s with
          mpt := { s.mpt with link := none, timer := none, retry := false, head := some n } })) ∧
      (s.mpt.holder = none → s.mpt.volumeWaits = true → s.vom.state = .ejecting →
        exec (.seekDone k) s = .next (driveInhibit { s with mpt := { s.mpt with
          link := some { op := .eject, number := s.mpt.nextOp, issuer := .volume }, timer := some 3000, retry := false
          nextOp := s.mpt.nextOp + 1, head := some n, holder := some .volume, volumeWaits := false
          burstLimit := some s.params.burstMax } })))

/-- The reads of the tail: a slot that is BLANK, BAD or read in error leaves the candidate, a GOOD one is compared with it, and
the next slot of the window is read; after the last slot, whatever it held, a window without a candidate rejects the volume
TAIL_UNREADABLE, and the session numbers and RSNs that are used up reject it too; P then holds no value, since no volume is loaded
(R7, R13, R65, R100, R102, R103). That the scratch stands after the rejection is the model's choice (log entry 35). -/
def Obligations.TailReads : Prop :=
  ∀ (s : State) (k : Byte) (n pt : Nat) (c : Instr) (good : Option SlotHeader) (bytes : Option (List Byte)) (x : Scratch),
    s.signals = [] → s.vom.state = .seekingEnd → s.mpt.link = some { op := .read n, number := k, issuer := .volume } →
    s.mpt.holder = some .volume → NoneAsks s → s.vom.appendPoint = some pt → ReadEnds k c good bytes →
    x = s.scratch.seen n good bytes →
    (n + 1 < pt →
      exec c s = .next (driveInhibit { s with
        scratch := { x with slot := some (n + 1) }
        mpt := { s.mpt with
          link := some { op := .read (n + 1), number := s.mpt.nextOp, issuer := .volume }, timer := some 3000
          retry := false, nextOp := s.mpt.nextOp + 1, head := some (n + 1) } })) ∧
    (pt ≤ n + 1 → ∀ reason : RejectReason,
      (x.best = none ∧ reason = .tailUnreadable) ∨
        (∃ best, x.best = some best ∧
          ((65535 ≤ x.highest.getD 0 ∧ reason = .sessionLimit) ∨
            (x.highest.getD 0 < 65535 ∧ best.firstRsn + best.count - 1 = 281474976710655 ∧ reason = .rsnLimit))) →
      ∃ t, exec c s = .next t ∧ t.vom = { s.vom with state := .rejected, reason := some reason, appendPoint := none } ∧
        t.scratch = x ∧
        t.mpt = { s.mpt with link := none, timer := none, retry := false, head := some (n + 1), holder := none } ∧
        (∀ p, t.bodies p = posted (.volumeRejected reason) (s.bodies p)) ∧
        t.adu = s.adu ∧ t.pool = s.pool ∧ t.ape = s.ape ∧ t.cursors = s.cursors ∧ t.srt = s.srt)

/-- A tail read whose best candidate stands after the last slot, whatever that slot held: the session is one above the highest
seen, the next BSN and the next RSN follow the candidate's, which is the durable frontier, and the volume is READY (R102 to R104).
Stated with the level staying NORMAL. -/
def Obligations.SessionAfterTail : Prop :=
  ∀ (s : State) (k : Byte) (n pt cap : Nat) (c : Instr) (good : Option SlotHeader) (bytes : Option (List Byte))
    (ser : BitVec 64) (best : Candidate) (hi : Nat),
    s.signals = [] → s.vom.state = .seekingEnd → s.mpt.link = some { op := .read n, number := k, issuer := .volume } →
    s.mpt.holder = some .volume → NoneAsks s → s.vom.appendPoint = some pt → pt ≤ n + 1 → s.vom.capacity = some cap →
    s.vom.serial = some ser → ReadEnds k c good bytes → (s.scratch.seen n good bytes).best = some best →
    (s.scratch.seen n good bytes).highest = some hi → hi < 65535 →
    best.firstRsn + best.count - 1 ≠ 281474976710655 → s.pool.opened = none → s.pool.sealed = [] → 0 < s.pool.free →
    s.vom.remaining = none → LevelStays { s with vom := { s.vom with level := some .normal } } ((cap : Int) - pt - 1) →
      ∃ t, exec c s = .next t ∧
        t.vom = { s.vom with
          state := .ready, remaining := some ((cap : Int) - pt - 1), level := some .normal, session := some (hi + 1)
          frontier := some best.bsn, frontierSlot := some best.slot
          highestRsn := some (best.firstRsn + best.count - 1), lost := some 0 } ∧
        t.adu = { s.adu with nextRsn := some (best.firstRsn + best.count - 1 + 2) } ∧
        t.pool.nextBsn = some (best.bsn + 1) ∧ t.pool.free = s.pool.free - 1 ∧
        t.pool.opened.map (fun o => (o.firstRsn, o.count)) = some (some (best.firstRsn + best.count - 1 + 1), 1) ∧
        t.mpt.holder = none ∧ t.srt = { s.srt with streams := Vector.replicate 16 StreamEntry.reset } ∧
        (∀ p, t.bodies p =
          posted (.volumeLoaded ser (hi + 1) cap pt (best.firstRsn + best.count - 1 + 1)) (s.bodies p))

/-- UNLOAD: the refusals by the state of the volume, the volume reservation and the lock set; its acceptance in REJECTED, in
FAULTED with cause ATTEMPTS or NO_SPACE, and in READY with nothing staged, where the volume is EJECTING at once and the EJECT is
issued with the grant or the Volume Manager waits for the grant; and in READY with an open block, where the drain begins: the
block is sealed DRAIN. In each the requester's own lock goes, and its tag is PENDING (R108, R109, R110). -/
def Obligations.UnloadRequest : Prop :=
  ∀ (s : State) (p : Port) (t : Tag), Ready s p t → GateOpen s p →
    (∀ st, some st = (
        if s.vom.state = .none ∨ (s.vom.state = .faulted ∧ s.vom.cause = some .drive) then some Status.notReady
        else if s.vom.state = .mounting ∨ s.vom.state = .seekingEnd ∨ s.vom.state = .draining ∨
          s.vom.state = .ejecting then some .busy
        else if ∃ q, q ≠ p ∧ s.srt.volume = some q then some .conflict
        else if ∃ q : Port, q ≠ p ∧ s.srt.locks[q] = true then some .locked else none) →
      exec (.unload p t []) s = .next (driveInhibit { s with
        ports := (s.answered p t 10 st .empty s.marks) })) ∧
    (s.vom.state = .rejected ∨ (s.vom.state = .faulted ∧ s.vom.cause ≠ some .drive) ∨
        (s.vom.state = .ready ∧ s.adu.queue = [] ∧ s.ape.state = .idle ∧ s.pool.opened = none ∧ s.writtenBlocks = []) →
      (∀ q, q ≠ p → s.srt.volume ≠ some q ∧ s.srt.locks[q] = false) → ∀ v : State,
      v = { s with
        ports := (s.taken p t {
          state := .pending, rsn := none, reply := none, frame := some { kind := 10, payload := [] } })
        vom := { s.vom with
          state := .ejecting, unload := some { port := p, tag := t, faultFlag := false, owed := true } }
        srt := { s.srt with locks := s.srt.locks.set p false } } →
      (s.mpt.holder = none → s.mpt.link = none → s.mpt.volumeWaits = false →
        exec (.unload p t []) s = .next (driveInhibit { v with mpt := { s.mpt with
          link := some { op := .eject, number := s.mpt.nextOp, issuer := .volume }, timer := some 3000, retry := false
          nextOp := s.mpt.nextOp + 1, holder := some .volume, burstLimit := some s.params.burstMax } })) ∧
      (s.mpt.holder ≠ some .volume → s.mpt.holder ≠ none ∨ s.mpt.link ≠ none →
        exec (.unload p t []) s = .next (driveInhibit { v with mpt := { s.mpt with volumeWaits := true } }))) ∧
    (∀ (o : OpenBlock) (m : Int), s.vom.state = .ready →
      (∀ q, q ≠ p → s.srt.volume ≠ some q ∧ s.srt.locks[q] = false) →
      s.adu.queue = [] → s.pool.opened = some o → RemainingIs s m → MidWrite s →
      exec (.unload p t []) s = .next (driveInhibit { s with
        ports := (s.taken p t {
          state := .pending, rsn := none, reply := none, frame := some { kind := 10, payload := [] } })
        vom := { s.vom with
          state := .draining, unload := some { port := p, tag := t, faultFlag := false, owed := true } }
        srt := { s.srt with locks := s.srt.locks.set p false }
        pool := { s.pool with
          opened := none, nextBsn := some (s.pool.nextBsn.getD 0 + 1)
          sealed := s.pool.sealed ++ [sealedBlock o .drain (s.pool.nextBsn.getD 0) (s.vom.session.getD 0)
            (s.vom.serial.getD 0) s.params.startAge] } }))

/-- EJECTED: the volume is gone; the next numbers are unset and the table is cleared; the UNLOAD is replied DONE with the highest
durable RSN, and every other port is posted VOLUME_GONE, cause UNLOADED (R37, R45, R66, R67, R111, R153). Stated with no cursor
open and no other client waiting. -/
def Obligations.Ejected : Prop :=
  ∀ (s : State) (k : Byte) (p : Port) (t : Tag), s.signals = [] → s.vom.state = .ejecting →
    s.mpt.link = some { op := .eject, number := k, issuer := .volume } → s.mpt.holder = some .volume → NoneAsks s →
    (∀ q, (s.cursor q).state = .closed ∨ (s.cursor q).state = .failed) →
    s.vom.unload = some { port := p, tag := t, faultFlag := false, owed := true } → CanReply s p t →
      ∃ u, exec (.ejected k) s = .next u ∧ u.vom = VolumeRecord.unset .none ∧
        u.mpt = { s.mpt with link := none, timer := none, retry := false, head := none, holder := none } ∧
        u.srt = Claims.reset ∧ u.adu = { s.adu with nextRsn := none } ∧ u.pool = { s.pool with nextBsn := none } ∧
        (u.port p).tags = (s.port p).tags.set t TagSlot.idle ∧
        (∃ i, (u.port p).transmit = (s.port p).transmit ++ [.reply {
          tag := t, kind := (s.slot p t).kindByte, status := .done, indicators := i, body := .rsn s.vom.highestRsn }]) ∧
        u.notices p = s.notices p ∧
        (∀ q, q ≠ p → u.bodies q = posted (.volumeGone .unloaded s.vom.highestRsn 0) (s.bodies q)) ∧
        u.ape = s.ape ∧ u.cursors = s.cursors ∧ u.params = s.params

/-- CARTRIDGE_REMOVED completes in every state of the volume. The drive's operation, the head position and the grant are gone
(R71). A volume that was loaded is lost: the queued requests are refused NOT_READY, what was staged is gone and counted, its sync
waiters are replied LOST in BSN and list order, each with its recorded RSN, every port is posted VOLUME_GONE, cause REMOVED, and a
pending UNLOAD is replied LOST behind it (R24, R36, R56, R94, R114, R153, R165). In NONE nothing more happens; in MOUNTING,
REJECTED and FAULTED with cause DRIVE the record is unset without a notice; in EJECTING the UNLOAD is answered as at EJECTED, DONE
or WRITE_FAILED, and every other port is posted VOLUME_GONE, cause UNLOADED (R115). That a refusal, and the LOST or WRITE_FAILED
reply to an UNLOAD, carry no value is the model's reading (log entry 32). What stands in the transmit queue of a port is said
where it has room for it and no VOLUME_GONE of its own is queued, and that no notice of the requester's moves, of a state in which
nothing waits for room that is there. Stated with no cursor open. That the end-search scratch stands is the model's choice (log
entry 35). -/
def Obligations.CartridgeRemoved : Prop :=
  ∀ (s bare : State), Running s →
    (∀ p, ((s.cursor p).state = .closed ∨ (s.cursor p).state = .failed) ∧ (s.cursor p).phase = .idle) →
    (∀ o, s.mpt.link = some o → o.holdsBuffer = false) →
    bare = { s with mpt := s.mpt.bare, ape := { s.ape with yield := false } } →
    (s.vom.state = .none → exec .cartridgeRemoved s = .next (driveInhibit bare)) ∧
    (s.vom.state = .mounting ∨ (s.vom.state = .faulted ∧ s.vom.cause = some .drive) →
      exec .cartridgeRemoved s = .next (driveInhibit { bare with vom := VolumeRecord.unset .none })) ∧
    (s.vom.state = .rejected →
      exec .cartridgeRemoved s = .next (driveInhibit { bare with
        vom := VolumeRecord.unset .none, srt := Claims.reset
        adu := { s.adu with nextRsn := none }, pool := { s.pool with nextBsn := none } })) ∧
    (s.vom.state = .ejecting → ∃ t, exec .cartridgeRemoved s = .next t ∧ t.vom = VolumeRecord.unset .none ∧
      t.mpt = s.mpt.bare ∧ t.ape = bare.ape ∧ t.srt = Claims.reset ∧ t.adu = { s.adu with nextRsn := none } ∧
      t.pool = { s.pool with nextBsn := none } ∧ t.cursors = s.cursors ∧ t.params = s.params ∧
      ∀ p x fault, s.vom.unload = some { port := p, tag := x, faultFlag := fault, owed := true } →
        (∀ q, q ≠ p → t.bodies q = posted (.volumeGone .unloaded s.vom.highestRsn 0) (s.bodies q)) ∧
        (PlacedAtOnce s → t.notices p = s.notices p) ∧
        (RepliesFit s p [x] 0 → Replied p [x]
          [if fault then s.replyTo p .writeFailed .empty false x
            else s.replyTo p .done (.rsn s.vom.highestRsn) false x] s t)) ∧
    (s.vom.state = .seekingEnd ∨ s.vom.state = .ready ∨ s.vom.state = .draining ∨
        (s.vom.state = .faulted ∧ s.vom.cause ≠ some .drive) →
      ∃ t, exec .cartridgeRemoved s = .next t ∧ t.vom = VolumeRecord.unset .none ∧ t.mpt = s.mpt.bare ∧
        t.srt = Claims.reset ∧ t.adu = { s.adu with queue := [], nextRsn := none } ∧
        t.pool = { free := s.pool.free + s.staged, opened := none, sealed := [], nextBsn := none } ∧
        t.ape = { state := .idle, unverified := [], inWrite := none, yield := false } ∧
        (∀ p, t.bodies p = posted (.volumeGone .removed s.vom.highestRsn s.stagedRecords) (s.bodies p)) ∧
        (∀ p queued waiting unload, queued = s.queuedTags p → waiting = waiterTags p (sortBlocks s.writtenBlocks) →
          unload = s.vom.unload.toList.filterMap (fun u => if u.port = p ∧ u.owed = true then some u.tag else none) →
          RepliesFit s p (queued ++ waiting ++ unload) 1 → (∀ e ∈ (s.notices p).queue, e.body.code ≠ 4) →
          ∃ number, Replied p (queued ++ waiting ++ unload)
            (queued.map (s.replyTo p .notReady .empty false) ++
              waiting.map (fun x => s.replyTo p .lost (.rsn (s.slot p x).rsn) false x) ++
              [.notice number (.volumeGone .removed s.vom.highestRsn s.stagedRecords)] ++
              unload.map (s.replyTo p .lost .empty false)) s t) ∧
        t.cursors = s.cursors ∧ t.params = s.params)

/-- The EJECT_INHIBIT line stands as its law says after every command, in every state (R118). -/
def Obligations.LineLawfulAlways : Prop :=
  ∀ (c : Instr) (s t : State), exec c s = .next t → LineLawful t

/-! ## Replay -/

/-- REPLAY_OPEN: refused NOT_READY where the volume cannot be read, BAD_REQUEST for a filter that lets nothing pass or a SLOT
start above S_D, in every state of the cursor (R122). Else a CLOSED cursor is set up and the reply is DONE with the read position
of its start: with D unset the cursor is AT_FRONTIER; with D set it is FILLING and asks for the grant, waits where another client
holds it, and where the grant is free begins its fill and seeks (R72, R74, R121, R123 to R125); that this grant at once, as a
hand-over does, sets the append write count to 0 and makes it the last-served cursor is the model's reading (log entry 16). A
cursor that is open is closed first: its pending NEXT is replied ABORTED before the DONE, its buffers are FREE, and an operation
of its own that is outstanding ends for no cursor (R123, R135, R136). The reopen is stated with D set, for a cursor that does not
hold the grant while another client does. -/
def Obligations.ReplayOpen : Prop :=
  ∀ (s : State) (p : Port) (t : Tag) (b : List Byte) (st : Start) (f : Filter), Ready s p t → GateOpen s p →
    b.length ≤ 2040 → parseRequest 11 b = some (.replayOpen st f) →
    (¬(s.vom.state = .ready ∨ s.vom.state = .draining ∨ (s.vom.state = .faulted ∧ s.vom.cause ≠ some .drive)) →
      exec (.replayOpen p t b) s = .next (driveInhibit { s with
        ports := (s.answered p t 11 .notReady .empty s.marks) })) ∧
    (s.vom.state = .ready ∨ s.vom.state = .draining ∨ (s.vom.state = .faulted ∧ s.vom.cause ≠ some .drive) →
      (f = { streams := 0, part := false } ∨
        ∃ n, st = .slot n ∧ ∀ d sd, s.vom.frontier = some d → s.vom.frontierSlot = some sd → sd < n) →
      exec (.replayOpen p t b) s = .next (driveInhibit { s with
        ports := (s.answered p t 11 .badRequest .empty s.marks) })) ∧
    (s.vom.state = .ready ∨ s.vom.state = .draining ∨ (s.vom.state = .faulted ∧ s.vom.cause ≠ some .drive) →
      f ≠ { streams := 0, part := false } → s.vom.frontier = none → s.vom.frontierSlot = none →
      (∀ n, st ≠ .slot n) → (s.cursor p).state = .closed →
      exec (.replayOpen p t b) s = .next (driveInhibit { s with
        ports := (s.answered p t 11 .done (.position 0) s.marks)
        cursors := s.cursors.set p { Cursor.reset with state := .atFrontier, readPos := some 0, filter := f } })) ∧
    (∀ d sd n : Nat,
      s.vom.state = .ready ∨ s.vom.state = .draining ∨ (s.vom.state = .faulted ∧ s.vom.cause ≠ some .drive) →
      f ≠ { streams := 0, part := false } → s.vom.frontier = some d → s.vom.frontierSlot = some sd →
      n = (match st with
        | .first => 0
        | .slot k => k
        | .tail k => sd + 1 - k) →
      n ≤ sd → 1 ≤ s.params.readahead →
      (∀ c, (s.cursor p).state = .closed → s.mpt.holder = some c → c ≠ .cursor p → s.mpt.waits (.cursor p) = false →
        (c = .engine → ∀ l, s.mpt.burstLimit = some l → s.mpt.writes < l) →
        exec (.replayOpen p t b) s = .next (driveInhibit { s with
          ports := (s.answered p t 11 .done (.position n) s.marks)
          cursors := s.cursors.set p { Cursor.reset with
            state := .filling, phase := .asking, readPos := some n, filter := f }
          mpt := { s.mpt with cursorWaits := s.mpt.cursorWaits.set p true } })) ∧
      ((s.cursor p).state = .closed → s.mpt.holder = none → s.mpt.link = none → s.mpt.waits (.cursor p) = false →
        s.mpt.head ≠ some n →
        exec (.replayOpen p t b) s = .next (driveInhibit { s with
          ports := (s.answered p t 11 .done (.position n) s.marks)
          cursors := s.cursors.set p { Cursor.reset with
            state := .filling, phase := .reading, readPos := some n, filter := f, inUse := some s.params.readahead }
          mpt := { s.mpt with
            link := some { op := .seek n, number := s.mpt.nextOp, issuer := .cursor p }, timer := some 3000
            retry := false, nextOp := s.mpt.nextOp + 1, holder := some (.cursor p), writes := 0
            burstLimit := some s.params.burstMax, lastServed := p } })) ∧
      (∀ (c : Client) (u : State), (s.cursor p).state ≠ .closed → s.mpt.holder = some c → c ≠ .cursor p →
        (c = .engine → ∀ l, s.mpt.burstLimit = some l → s.mpt.writes < l) → s.ape.yield = false →
        s.adu.queue = [] → (∀ q, q ≠ p → (s.cursor q).phase ≠ .starved) →
        ((s.cursor p).next = none ∧ u = s ∨
          ∃ x, (s.cursor p).next = some x ∧ (s.slot p x).state ≠ .idle ∧ (s.port p).transmit.length < 11 ∧
            u = { s with ports := (s.replied p x .aborted .empty
              { s.marks with clockUnset := (s.slot p x).kindByte == 1 && s.adu.clock.isNone }) }) →
        exec (.replayOpen p t b) s = .next (driveInhibit { s with
          ports := (u.answered p t 11 .done (.position n) s.marks)
          cursors := s.cursors.set p { Cursor.reset with
            state := .filling, phase := .asking, readPos := some n, filter := f }
          pool := { s.pool with free := s.pool.free + (s.cursor p).buffered.length }
          mpt := { s.mpt with
            cursorWaits := s.mpt.cursorWaits.set p true
            link := s.mpt.link.map fun o => if o.issuer = .cursor p then { o with issuer := .closedCursor p } else o }
          choice := if (s.cursor p).buffered = [] then s.choice else s.choice + 2 })))

/-- REPLAY_NEXT by the state of the cursor: CLOSED is refused BAD_REQUEST and FAILED NOT_READY; READY is answered with the head of
the buffered list, whose buffer becomes FREE; AT_FRONTIER is answered END_OF_DATA; FILLING keeps the request as its pending
NEXT, or refuses it BUSY where it has one (R132). READY is stated where two blocks stay buffered, so that no fill is asked for. -/
def Obligations.ReplayNext : Prop :=
  ∀ (s : State) (p : Port) (t : Tag), Ready s p t → GateOpen s p →
    ((s.cursor p).state = .closed →
      exec (.replayNext p t []) s = .next (driveInhibit { s with
        ports := (s.answered p t 12 .badRequest .empty s.marks) })) ∧
    ((s.cursor p).state = .failed →
      exec (.replayNext p t []) s = .next (driveInhibit { s with
        ports := (s.answered p t 12 .notReady .empty s.marks) })) ∧
    (∀ (e : Buffered) (rest : List Buffered), (s.cursor p).state = .ready → (s.cursor p).buffered = e :: rest →
      2 ≤ rest.length → NoneWaits s →
      exec (.replayNext p t []) s = .next (driveInhibit { s with
        ports := (s.answered p t 12 .done
          (.block (natAt 4 4 e.image) e.slot (natAt 8 2 e.image) ((s.cursor p).filter.select e.image))
          { s.marks with gap := e.gap })
        cursors := s.cursors.set p { s.cursor p with buffered := rest }
        pool := { s.pool with free := s.pool.free + 1 }
        choice := s.choice + 2 })) ∧
    ((s.cursor p).state = .atFrontier → (s.cursor p).phase = .idle → (s.cursor p).buffered = [] →
      (s.vom.frontier = none ∨ ∃ n sd, (s.cursor p).readPos = some n ∧ s.vom.frontierSlot = some sd ∧ sd < n) →
      exec (.replayNext p t []) s = .next (driveInhibit { s with
        ports := (s.answered p t 12 .endOfData (.endOfData (s.cursor p).readPos s.vom.frontierSlot)
          { s.marks with gap := (s.cursor p).gap })
        cursors := s.cursors.set p { s.cursor p with gap := false } })) ∧
    ((s.cursor p).state = .filling → (s.cursor p).phase ≠ .idle → (s.cursor p).next = none →
      exec (.replayNext p t []) s = .next (driveInhibit { s with
        ports := (s.taken p t {
          state := .pending, rsn := none, reply := none, frame := some { kind := 12, payload := [] } })
        cursors := s.cursors.set p { s.cursor p with next := some t } })) ∧
    ((s.cursor p).state = .filling → (s.cursor p).next ≠ none →
      exec (.replayNext p t []) s = .next (driveInhibit { s with
        ports := (s.answered p t 12 .busy .empty s.marks) }))

/-- REPLAY_CLOSE: DONE in every state of the volume and of the cursor, whatever the gate; an open cursor becomes CLOSED, its
buffers are FREE, and a read of its that is outstanding ends for no cursor (R135, R136). Stated for a cursor that neither holds the
grant nor has a pending NEXT. -/
def Obligations.ReplayClose : Prop :=
  ∀ (s : State) (p : Port) (t : Tag), Ready s p t →
    ((s.cursor p).state = .closed →
      exec (.replayClose p t []) s = .next (driveInhibit { s with
        ports := (s.answered p t 13 .done .empty s.marks) })) ∧
    ((s.cursor p).state ≠ .closed → (s.cursor p).next = none → s.mpt.holder ≠ some (.cursor p) → s.ape.yield = false →
      s.adu.queue = [] → (∀ q, q ≠ p → (s.cursor q).phase ≠ .starved) →
      exec (.replayClose p t []) s = .next (driveInhibit { s with
        ports := (s.answered p t 13 .done .empty s.marks)
        cursors := s.cursors.set p Cursor.reset
        pool := { s.pool with free := s.pool.free + (s.cursor p).buffered.length }
        mpt := { s.mpt with
          cursorWaits := s.mpt.cursorWaits.set p false
          link := s.mpt.link.map fun o => if o.issuer = .cursor p then { o with issuer := .closedCursor p } else o }
        choice := if (s.cursor p).buffered = [] then s.choice else s.choice + 2 }))

/-- A read of a filling cursor ends (R65, R67, R125, R127 to R131, R133). A GOOD slot with the expected BSN, not above D, that
holds a record the filter lets pass is buffered, with the gap mark; with the read-ahead reached the fill stops and the grant goes;
a pending NEXT is answered with the block at once, and the fill goes on. Of an accepted block no record of which passes, of a slot
that is not GOOD and of a superseded copy the buffer is FREE again and the next slot is read; a slot above the expected BSN becomes
the candidate. With a candidate, the cursor resynchronises at it, with the GAP indicator, when the window or S_D has been passed
or a BSN above D is met; without one, a BSN above D stops the fill at that slot, and S_D passed stops it at the frontier, where a
pending NEXT is replied END_OF_DATA. The fill's next step before the wake-ups of the buffer is the model's choice (log entry 37).
Stated with nobody waiting for the grant or for a buffer. The read of a cursor that has been closed or reopened since ends with its
buffer FREE, touches no cursor and issues nothing; a hand-over that waited for the link takes place, here to the Volume Manager,
which ejects (R65, R72, R110, R136). -/
def Obligations.CursorRead : Prop :=
  (∀ (s : State) (k : Byte) (p : Port) (n d sd i : Nat) (c : Instr) (good : Option SlotHeader) (bytes : Option (List Byte))
      (x : Cursor),
      s.signals = [] → s.mpt.link = some { op := .read n, number := k, issuer := .cursor p } →
      s.mpt.holder = some (.cursor p) → NoneAsks s → x = s.cursor p → x.phase = .reading →
      x.state = (if x.buffered = [] then .filling else .ready) → (x.next = none ∨ x.buffered = []) → x.inUse = some i →
      x.buffered.length < i → s.vom.frontier = some d → s.vom.frontierSlot = some sd → ReadEnds k c good bytes →
      -- a block is kept and the read-ahead reached
      (∀ h, good = some h → x.takes d h → x.filter.select (bytes.getD []) ≠ [] → x.next = none →
        x.buffered.length + 1 = i → 2 ≤ i ∨ s.params.readahead ≤ i →
        exec c s = .next (driveInhibit { s with
          mpt := { s.mpt with link := none, timer := none, retry := false, head := some (n + 1), holder := none }
          cursors := s.cursors.set p { x with
            state := .ready, phase := .idle, readPos := some (n + 1), expected := some (h.bsn + 1), last := some h.bsn
            candidate := none, skipped := 0, hold := none, inFlight := false, gap := false
            buffered := x.buffered ++ [{ image := bytes.getD [], slot := n, gap := x.gap }] } })) ∧
      -- the fill goes on at the next slot
      (n + 1 ≤ sd → x.reads < 8 → NoneWaits s → s.params.stagingFloor ≤ s.pool.free → s.replayCount ≤ s.params.replayLimit →
        (x.passesBy d good → x.candidate = none ∨ x.skipped + 1 < 32 →
          exec c s = .next (driveInhibit (s.readsOn p n { x with skipped := min (x.skipped + 1) 32 }))) ∧
        (∀ h, good = some h → x.missesAt d h → x.skipped + 1 < 32 →
          exec c s = .next (driveInhibit (s.readsOn p n { x with
            skipped := x.skipped + 1, candidate := some (x.candidate.getD (n, h.bsn)) }))) ∧
        (∀ h, good = some h → x.takes d h → x.filter.select (bytes.getD []) = [] →
          exec c s = .next (driveInhibit (s.readsOn p n { x with
            expected := some (h.bsn + 1), last := some h.bsn, candidate := none, skipped := 0 }))) ∧
        (∀ h y, good = some h → x.takes d h → x.filter.select (bytes.getD []) ≠ [] → x.next = some y → CanReply s p y →
          exec c s = .next (driveInhibit {
            s.readsOn p n { x with
              expected := some (h.bsn + 1), last := some h.bsn, candidate := none, skipped := 0, gap := false
              next := none } with
            ports := (s.replied p y .done (.block h.bsn n h.session (x.filter.select (bytes.getD [])))
              { s.marks with clockUnset := (s.slot p y).kindByte == 1 && s.adu.clock.isNone, gap := x.gap }) }))) ∧
      -- resynchronisation
      (∀ j y, x.reads < 8 → NoneWaits s → j ≤ sd → j ≠ n + 1 →
        (x.passesBy d good ∧ x.candidate = some (j, y) ∧ (32 ≤ x.skipped + 1 ∨ sd < n + 1)) ∨
          (∃ h, good = some h ∧ x.missesAt d h ∧ x.candidate.getD (n, h.bsn) = (j, y) ∧
            (32 ≤ x.skipped + 1 ∨ sd < n + 1)) ∨
          (∃ h, good = some h ∧ d < h.bsn ∧ x.candidate = some (j, y)) →
        exec c s = .next (driveInhibit (s.seeksBack p n j))) ∧
      -- the frontier
      (∀ z : Cursor, NoneWaits s → x.candidate = none →
        (∃ h, good = some h ∧ d < h.bsn ∧ z = { x with readPos := some n, hold := some h.bsn }) ∨
          (x.passesBy d good ∧ sd < n + 1 ∧
            z = { x with readPos := some (n + 1), hold := none, skipped := min (x.skipped + 1) 32 }) →
        (x.next = none → exec c s = .next (driveInhibit (s.stopsAtFrontier p n z))) ∧
        (∀ y, x.next = some y → CanReply s p y →
          exec c s = .next (driveInhibit { s.stopsAtFrontier p n { z with next := none, gap := false } with
            ports := (s.replied p y .endOfData (.endOfData z.readPos (some sd))
              { s.marks with clockUnset := (s.slot p y).kindByte == 1 && s.adu.clock.isNone, gap := x.gap }) })))) ∧
  ∀ (s : State) (k : Byte) (p : Port) (n : Nat) (c : Instr) (good : Option SlotHeader) (bytes : Option (List Byte)),
    s.signals = [] → s.mpt.link = some { op := .read n, number := k, issuer := .closedCursor p } → NoneWaits s →
    ReadEnds k c good bytes →
    (NoneAsks s →
      exec c s = .next (driveInhibit { s with
        pool := { s.pool with free := s.pool.free + 1 }
        mpt := { s.mpt with link := none, timer := none, retry := false, head := some (n + 1) }
        choice := s.choice + 2 })) ∧
    (s.mpt.holder = none → s.mpt.volumeWaits = true → s.vom.state = .ejecting →
      exec c s = .next (driveInhibit { s with
        pool := { s.pool with free := s.pool.free + 1 }
        mpt := { s.mpt with
          link := some { op := .eject, number := s.mpt.nextOp, issuer := .volume }, timer := some 3000, retry := false
          nextOp := s.mpt.nextOp + 1, head := some (n + 1), holder := some .volume, volumeWaits := false
          burstLimit := some s.params.burstMax }
        choice := s.choice + 2 }))

/-! ## What holds at reset, and the byte layouts -/

/-- The laws that every step keeps hold in the state after reset. -/
def Obligations.LawsAtReset : Prop :=
  BuffersKept State.reset ∧ WritesBounded State.reset ∧ TransmitBounded State.reset ∧ ErrorsBelow State.reset ∧
    PlacedAtOnce State.reset ∧ NoticesDistinct State.reset ∧ State.reset.params.inRange ∧ ClockBounded State.reset ∧
    LineLawful State.reset

/-- A block as it is written reads back as itself: its 2,048 bytes are GOOD, with its header, and hold its records (R3, R6,
R7, R182). -/
def Obligations.BlockReadsBack : Prop :=
  ∀ b : Block,
    b.bsn < 4294967296 → b.session < 65536 → b.count < 256 → b.firstRsn < 281474976710656 →
    (∀ r ∈ b.records, r.payload.length ≤ 2000) → b.fill = (b.records.map fun r => footprint r.payload.length).sum →
    b.fill ≤ 2016 →
    b.crc = crc32 (headerBytes b.bsn b.session b.cause b.count b.fill b.firstRsn b.serial ++ areaBytes b.records) →
      classify b.image = .good { bsn := b.bsn, session := b.session, count := b.count, fill := b.fill,
                                 firstRsn := b.firstRsn } ∧
      slotRecords b.image = b.records.map Record.bytes

/-- The bytes of a host frame, with its header and its check, stand for the command of their kind; a frame with any other check is
a frame error (R163, R180, R181). The bytes of a message from the drive stand for the completion or report of their kind byte,
with its operation number and its fields, each most significant byte first; with any other check, or a kind byte that is none of
the drive's, the message is corrupt; the number byte of a report is not looked at (R60 to R66, R70, R180, R182). Said for any
codes of the message kinds that differ, since the manual gives none (log entry 24). -/
def Obligations.FramesDecode : Prop :=
  (∀ (p : Port) (t : Tag) (k : Byte) (b body : List Byte), b.length ≤ 2040 →
    decodeHostFrame p (sealFrame 1 t.val k.toNat 0 0 b) = requestCommand p t k b ∧
    decodeHostFrame p (sealFrame 2 t.val 0 0 0 []) = .abort p t ∧
    decodeHostFrame p (sealFrame 3 0 0 0 0 []) = .portReset p ∧
    (∀ x : BitVec 32, body.length = 8 + b.length → x ≠ crc32 body →
      decodeHostFrame p (body ++ beBytes 4 x.toNat) = .frameError p)) ∧
  ∀ (codes : DriveCodes) (n : Byte), (DriveKind.fromDrive.map codes.kind).Nodup →
    codes.medium true ≠ codes.medium false → codes.result true ≠ codes.result false →
    (∀ (cap : BitVec 32) (ser : BitVec 64),
      decodeDriveMessageBy codes (driveMessage (codes.kind .mounted) n
        (beBytes 4 cap.toNat ++ beBytes 8 ser.toNat ++ [codes.medium true])) = .mounted n cap ser .writeOnce ∧
      decodeDriveMessageBy codes (driveMessage (codes.kind .mounted) n
        (beBytes 4 cap.toNat ++ beBytes 8 ser.toNat ++ [codes.medium false])) = .mounted n cap ser .other) ∧
    (∀ e : BitVec 32, decodeDriveMessageBy codes (driveMessage (codes.kind .endFound) n (beBytes 4 e.toNat)) = .endFound n e) ∧
    (∀ bytes : List Byte, bytes.length = 2048 →
      decodeDriveMessageBy codes (driveMessage (codes.kind .readDone) n bytes) = .readDone n bytes) ∧
    (∀ (slot : BitVec 32) (pass : Bool),
      decodeDriveMessageBy codes (driveMessage (codes.kind .verifyResult) n
        (beBytes 4 slot.toNat ++ [codes.result pass])) = .verifyResult slot pass) ∧
    (∀ x ∈ [(DriveKind.noMedium, Instr.noMedium n), (.mountError, .mountError n), (.endError, .endError n),
        (.seekDone, .seekDone n), (.seekError, .seekError n), (.written, .written n), (.writeError, .writeError n),
        (.blank, .blank n), (.readError, .readError n), (.ejected, .ejected n), (.ejectError, .ejectError n),
        (.cartridgeInserted, .cartridgeInserted), (.cartridgeRemoved, .cartridgeRemoved), (.driveFault, .driveFault)],
      decodeDriveMessageBy codes (driveMessage (codes.kind x.1) n []) = x.2) ∧
    (∀ (body : List Byte) (x : BitVec 32), x ≠ crc32 body →
      decodeDriveMessageBy codes (body ++ beBytes 4 x.toNat) = .driveMessageCorrupt) ∧
    (∀ (kind : Byte) (fields : List Byte), (∀ k ∈ DriveKind.fromDrive, codes.kind k ≠ kind) →
      decodeDriveMessageBy codes (driveMessage kind n fields) = .driveMessageCorrupt)
end

