-- ==== Sys2Proof/Laws/Bytes.lean ====
section
/-! SUPPORT. Numbers as bytes and back, fields of a byte string, and what the judgement of a slot, and that of a
drive message, says of bytes put together as a block or a message is. -/

namespace Sys2Proof.Machine

open Sys2Proof

@[simp] theorem length_beBytes (w n : Nat) : (beBytes w n).length = w := by
  induction w generalizing n with
  | zero => rfl
  | succ w ih => simp [beBytes, ih]

theorem beNat_append_one (l : List Byte) (b : Byte) : beNat (l ++ [b]) = beNat l * 256 + b.toNat := by
  simp [beNat, List.foldl_append]

/-- A number survives its bytes where they are wide enough (R180). -/
theorem beNat_beBytes (w n : Nat) (h : n < 256 ^ w) : beNat (beBytes w n) = n := by
  induction w generalizing n with
  | zero =>
    have : n = 0 := by simpa using h
    subst this
    rfl
  | succ w ih =>
    have : n / 256 < 256 ^ w := by
      rw [Nat.pow_succ] at h
      omega
    simp only [beBytes, beNat_append_one, ih _ this, BitVec.toNat_ofNat]
    omega

/-- A field inside the first part of a byte string. -/
theorem natAt_append_left (off len : Nat) (a b : List Byte) (h : off + len ≤ a.length) :
    natAt off len (a ++ b) = natAt off len a := by
  simp only [natAt, slice]
  rw [List.drop_append_of_le_length (by omega), List.take_append_of_le_length (by simp; omega)]

/-- A field behind the first part of a byte string. -/
theorem natAt_append_right (off len : Nat) (a b : List Byte) (h : a.length ≤ off) :
    natAt off len (a ++ b) = natAt (off - a.length) len b := by
  simp only [natAt, slice]
  rw [List.drop_append, List.drop_eq_nil_of_le h]
  simp

/-- A field that is all of a byte string. -/
theorem natAt_all (len : Nat) (a : List Byte) (h : a.length = len) : natAt 0 len a = beNat a := by
  subst h
  simp [natAt, slice]

/-- 28 header bytes with the format tag, their check over header and area, and an area of 2,016 bytes are a GOOD slot, and
its fields are those of the header (R7, R182). -/
theorem classify_parts (header area : List Byte) (crc : BitVec 32) (h : header.length = 28) (a : area.length = 2016)
    (tag : natAt 0 4 header = formatTag) (check : crc = crc32 (header ++ area)) :
    classify (header ++ beBytes 4 crc.toNat ++ area) =
      .good { bsn := natAt 4 4 header, session := natAt 8 2 header, count := natAt 11 1 header
              fill := natAt 12 2 header, firstRsn := natAt 14 6 header } := by
  have lt : crc.toNat < 256 ^ 4 := by have := crc.isLt; omega
  have field : ∀ off len, off + len ≤ 28 →
      natAt off len (header ++ beBytes 4 crc.toNat ++ area) = natAt off len header := by
    intro off len le
    rw [List.append_assoc, natAt_append_left _ _ _ _ (by omega)]
  have stored : natAt 28 4 (header ++ beBytes 4 crc.toNat ++ area) = crc.toNat := by
    rw [natAt_append_left _ _ _ _ (by simp [h]), natAt_append_right _ _ _ _ (by omega)]
    simp only [h, Nat.sub_self]
    rw [natAt_all _ _ (by simp), beNat_beBytes _ _ lt]
  have front : (header ++ beBytes 4 crc.toNat ++ area).take 28 = header := by
    rw [List.append_assoc, List.take_append_of_le_length (by omega), List.take_of_length_le (by omega)]
  have back : (header ++ beBytes 4 crc.toNat ++ area).drop 32 = area := by
    have e : (header ++ beBytes 4 crc.toNat).length = 32 := by simp [h]
    exact List.drop_left' e
  have len : (header ++ beBytes 4 crc.toNat ++ area).length = Config.blockSize := by
    simp [h, a, Config.blockSize]
  unfold classify
  rw [if_pos ⟨len, by rw [field 0 4 (by omega), tag], by rw [stored, front, back, ← check]⟩]
  rw [field 4 4 (by omega), field 8 2 (by omega), field 11 1 (by omega), field 12 2 (by omega),
    field 14 6 (by omega)]

/-- A message of two bytes or more with four bytes of check passes exactly when the check is its CRC-32 (R180, R182). -/
theorem messageSound_append (body : List Byte) (crc : BitVec 32) (h : 2 ≤ body.length) :
    messageSound (body ++ beBytes 4 crc.toNat) = decide (crc = crc32 body) := by
  have lt : crc.toNat < 256 ^ 4 := by have := crc.isLt; omega
  have n : (body ++ beBytes 4 crc.toNat).length - 4 = body.length := by simp
  have stored : natAt body.length 4 (body ++ beBytes 4 crc.toNat) = crc.toNat := by
    rw [natAt_append_right _ _ _ _ (Nat.le_refl _), Nat.sub_self, natAt_all _ _ (by simp), beNat_beBytes _ _ lt]
  have front : (body ++ beBytes 4 crc.toNat).take body.length = body := by simp
  have long : 6 ≤ (body ++ beBytes 4 crc.toNat).length := by simp; omega
  simp only [messageSound, n, stored, front, long, decide_true, Bool.true_and, BitVec.toNat_inj]

/-- Every message that is built passes its check. -/
@[simp] theorem messageSound_driveMessage (kind number : Byte) (fields : List Byte) :
    messageSound (driveMessage kind number fields) = true := by
  simp only [driveMessage]
  rw [messageSound_append _ _ (by simp)]
  simp

/-- The kind, the number and the fields of a message stand where the decoder reads them (R182). -/
theorem driveMessage_parts (kind number : Byte) (fields : List Byte) :
    (driveMessage kind number fields).getD 0 0 = kind ∧ (driveMessage kind number fields).getD 1 0 = number ∧
      slice 2 ((driveMessage kind number fields).length - 6) (driveMessage kind number fields) = fields := by
  refine ⟨by simp [driveMessage], by simp [driveMessage], ?_⟩
  simp [driveMessage, slice]

end Sys2Proof.Machine
end

