-- ==== Sys2Proof/Laws/State.lean ====
section
/-! SUPPORT. What each named update of State leaves unchanged: one lemma per update and field, true by rfl; and what the
read of a port, a slot, a cursor, a stream or a notice queue gives after a write. -/

namespace Sys2Proof.Machine

open Sys2Proof

variable (s : State)

/-! ### State.setPort -/

@[simp] theorem State.setPort_pending (p : Port) (h : HostPort) : (s.setPort p h).pending = s.pending := rfl
@[simp] theorem State.setPort_ctl (p : Port) (h : HostPort) : (s.setPort p h).ctl = s.ctl := rfl
@[simp] theorem State.setPort_params (p : Port) (h : HostPort) : (s.setPort p h).params = s.params := rfl
@[simp] theorem State.setPort_adu (p : Port) (h : HostPort) : (s.setPort p h).adu = s.adu := rfl
@[simp] theorem State.setPort_pool (p : Port) (h : HostPort) : (s.setPort p h).pool = s.pool := rfl
@[simp] theorem State.setPort_mpt (p : Port) (h : HostPort) : (s.setPort p h).mpt = s.mpt := rfl
@[simp] theorem State.setPort_ape (p : Port) (h : HostPort) : (s.setPort p h).ape = s.ape := rfl
@[simp] theorem State.setPort_vom (p : Port) (h : HostPort) : (s.setPort p h).vom = s.vom := rfl
@[simp] theorem State.setPort_scratch (p : Port) (h : HostPort) : (s.setPort p h).scratch = s.scratch := rfl
@[simp] theorem State.setPort_ejectInhibit (p : Port) (h : HostPort) : (s.setPort p h).ejectInhibit = s.ejectInhibit := rfl
@[simp] theorem State.setPort_cursors (p : Port) (h : HostPort) : (s.setPort p h).cursors = s.cursors := rfl
@[simp] theorem State.setPort_srt (p : Port) (h : HostPort) : (s.setPort p h).srt = s.srt := rfl
@[simp] theorem State.setPort_ntu (p : Port) (h : HostPort) : (s.setPort p h).ntu = s.ntu := rfl
@[simp] theorem State.setPort_signals (p : Port) (h : HostPort) : (s.setPort p h).signals = s.signals := rfl
@[simp] theorem State.setPort_choice (p : Port) (h : HostPort) : (s.setPort p h).choice = s.choice := rfl

/-! ### State.setNotices -/

@[simp] theorem State.setNotices_pending (p : Port) (n : NoticeUnit) : (s.setNotices p n).pending = s.pending := rfl
@[simp] theorem State.setNotices_ctl (p : Port) (n : NoticeUnit) : (s.setNotices p n).ctl = s.ctl := rfl
@[simp] theorem State.setNotices_params (p : Port) (n : NoticeUnit) : (s.setNotices p n).params = s.params := rfl
@[simp] theorem State.setNotices_ports (p : Port) (n : NoticeUnit) : (s.setNotices p n).ports = s.ports := rfl
@[simp] theorem State.setNotices_adu (p : Port) (n : NoticeUnit) : (s.setNotices p n).adu = s.adu := rfl
@[simp] theorem State.setNotices_pool (p : Port) (n : NoticeUnit) : (s.setNotices p n).pool = s.pool := rfl
@[simp] theorem State.setNotices_mpt (p : Port) (n : NoticeUnit) : (s.setNotices p n).mpt = s.mpt := rfl
@[simp] theorem State.setNotices_ape (p : Port) (n : NoticeUnit) : (s.setNotices p n).ape = s.ape := rfl
@[simp] theorem State.setNotices_vom (p : Port) (n : NoticeUnit) : (s.setNotices p n).vom = s.vom := rfl
@[simp] theorem State.setNotices_scratch (p : Port) (n : NoticeUnit) : (s.setNotices p n).scratch = s.scratch := rfl
@[simp] theorem State.setNotices_ejectInhibit (p : Port) (n : NoticeUnit) : (s.setNotices p n).ejectInhibit = s.ejectInhibit := rfl
@[simp] theorem State.setNotices_cursors (p : Port) (n : NoticeUnit) : (s.setNotices p n).cursors = s.cursors := rfl
@[simp] theorem State.setNotices_srt (p : Port) (n : NoticeUnit) : (s.setNotices p n).srt = s.srt := rfl
@[simp] theorem State.setNotices_signals (p : Port) (n : NoticeUnit) : (s.setNotices p n).signals = s.signals := rfl
@[simp] theorem State.setNotices_choice (p : Port) (n : NoticeUnit) : (s.setNotices p n).choice = s.choice := rfl

/-! ### State.setCursor -/

@[simp] theorem State.setCursor_pending (p : Port) (c : Cursor) : (s.setCursor p c).pending = s.pending := rfl
@[simp] theorem State.setCursor_ctl (p : Port) (c : Cursor) : (s.setCursor p c).ctl = s.ctl := rfl
@[simp] theorem State.setCursor_params (p : Port) (c : Cursor) : (s.setCursor p c).params = s.params := rfl
@[simp] theorem State.setCursor_ports (p : Port) (c : Cursor) : (s.setCursor p c).ports = s.ports := rfl
@[simp] theorem State.setCursor_adu (p : Port) (c : Cursor) : (s.setCursor p c).adu = s.adu := rfl
@[simp] theorem State.setCursor_pool (p : Port) (c : Cursor) : (s.setCursor p c).pool = s.pool := rfl
@[simp] theorem State.setCursor_mpt (p : Port) (c : Cursor) : (s.setCursor p c).mpt = s.mpt := rfl
@[simp] theorem State.setCursor_ape (p : Port) (c : Cursor) : (s.setCursor p c).ape = s.ape := rfl
@[simp] theorem State.setCursor_vom (p : Port) (c : Cursor) : (s.setCursor p c).vom = s.vom := rfl
@[simp] theorem State.setCursor_scratch (p : Port) (c : Cursor) : (s.setCursor p c).scratch = s.scratch := rfl
@[simp] theorem State.setCursor_ejectInhibit (p : Port) (c : Cursor) : (s.setCursor p c).ejectInhibit = s.ejectInhibit := rfl
@[simp] theorem State.setCursor_srt (p : Port) (c : Cursor) : (s.setCursor p c).srt = s.srt := rfl
@[simp] theorem State.setCursor_ntu (p : Port) (c : Cursor) : (s.setCursor p c).ntu = s.ntu := rfl
@[simp] theorem State.setCursor_signals (p : Port) (c : Cursor) : (s.setCursor p c).signals = s.signals := rfl
@[simp] theorem State.setCursor_choice (p : Port) (c : Cursor) : (s.setCursor p c).choice = s.choice := rfl

/-! ### State.setStream -/

@[simp] theorem State.setStream_pending (x : StreamId) (e : StreamEntry) : (s.setStream x e).pending = s.pending := rfl
@[simp] theorem State.setStream_ctl (x : StreamId) (e : StreamEntry) : (s.setStream x e).ctl = s.ctl := rfl
@[simp] theorem State.setStream_params (x : StreamId) (e : StreamEntry) : (s.setStream x e).params = s.params := rfl
@[simp] theorem State.setStream_ports (x : StreamId) (e : StreamEntry) : (s.setStream x e).ports = s.ports := rfl
@[simp] theorem State.setStream_adu (x : StreamId) (e : StreamEntry) : (s.setStream x e).adu = s.adu := rfl
@[simp] theorem State.setStream_pool (x : StreamId) (e : StreamEntry) : (s.setStream x e).pool = s.pool := rfl
@[simp] theorem State.setStream_mpt (x : StreamId) (e : StreamEntry) : (s.setStream x e).mpt = s.mpt := rfl
@[simp] theorem State.setStream_ape (x : StreamId) (e : StreamEntry) : (s.setStream x e).ape = s.ape := rfl
@[simp] theorem State.setStream_vom (x : StreamId) (e : StreamEntry) : (s.setStream x e).vom = s.vom := rfl
@[simp] theorem State.setStream_scratch (x : StreamId) (e : StreamEntry) : (s.setStream x e).scratch = s.scratch := rfl
@[simp] theorem State.setStream_ejectInhibit (x : StreamId) (e : StreamEntry) : (s.setStream x e).ejectInhibit = s.ejectInhibit := rfl
@[simp] theorem State.setStream_cursors (x : StreamId) (e : StreamEntry) : (s.setStream x e).cursors = s.cursors := rfl
@[simp] theorem State.setStream_ntu (x : StreamId) (e : StreamEntry) : (s.setStream x e).ntu = s.ntu := rfl
@[simp] theorem State.setStream_signals (x : StreamId) (e : StreamEntry) : (s.setStream x e).signals = s.signals := rfl
@[simp] theorem State.setStream_choice (x : StreamId) (e : StreamEntry) : (s.setStream x e).choice = s.choice := rfl

/-! ### State.setSlot -/

@[simp] theorem State.setSlot_pending (p : Port) (t : Tag) (x : TagSlot) : (s.setSlot p t x).pending = s.pending := rfl
@[simp] theorem State.setSlot_ctl (p : Port) (t : Tag) (x : TagSlot) : (s.setSlot p t x).ctl = s.ctl := rfl
@[simp] theorem State.setSlot_params (p : Port) (t : Tag) (x : TagSlot) : (s.setSlot p t x).params = s.params := rfl
@[simp] theorem State.setSlot_adu (p : Port) (t : Tag) (x : TagSlot) : (s.setSlot p t x).adu = s.adu := rfl
@[simp] theorem State.setSlot_pool (p : Port) (t : Tag) (x : TagSlot) : (s.setSlot p t x).pool = s.pool := rfl
@[simp] theorem State.setSlot_mpt (p : Port) (t : Tag) (x : TagSlot) : (s.setSlot p t x).mpt = s.mpt := rfl
@[simp] theorem State.setSlot_ape (p : Port) (t : Tag) (x : TagSlot) : (s.setSlot p t x).ape = s.ape := rfl
@[simp] theorem State.setSlot_vom (p : Port) (t : Tag) (x : TagSlot) : (s.setSlot p t x).vom = s.vom := rfl
@[simp] theorem State.setSlot_scratch (p : Port) (t : Tag) (x : TagSlot) : (s.setSlot p t x).scratch = s.scratch := rfl
@[simp] theorem State.setSlot_ejectInhibit (p : Port) (t : Tag) (x : TagSlot) : (s.setSlot p t x).ejectInhibit = s.ejectInhibit := rfl
@[simp] theorem State.setSlot_cursors (p : Port) (t : Tag) (x : TagSlot) : (s.setSlot p t x).cursors = s.cursors := rfl
@[simp] theorem State.setSlot_srt (p : Port) (t : Tag) (x : TagSlot) : (s.setSlot p t x).srt = s.srt := rfl
@[simp] theorem State.setSlot_ntu (p : Port) (t : Tag) (x : TagSlot) : (s.setSlot p t x).ntu = s.ntu := rfl
@[simp] theorem State.setSlot_signals (p : Port) (t : Tag) (x : TagSlot) : (s.setSlot p t x).signals = s.signals := rfl
@[simp] theorem State.setSlot_choice (p : Port) (t : Tag) (x : TagSlot) : (s.setSlot p t x).choice = s.choice := rfl

/-! ### State.setTagState -/

@[simp] theorem State.setTagState_pending (p : Port) (t : Tag) (st : TagState) : (s.setTagState p t st).pending = s.pending := rfl
@[simp] theorem State.setTagState_ctl (p : Port) (t : Tag) (st : TagState) : (s.setTagState p t st).ctl = s.ctl := rfl
@[simp] theorem State.setTagState_params (p : Port) (t : Tag) (st : TagState) : (s.setTagState p t st).params = s.params := rfl
@[simp] theorem State.setTagState_adu (p : Port) (t : Tag) (st : TagState) : (s.setTagState p t st).adu = s.adu := rfl
@[simp] theorem State.setTagState_pool (p : Port) (t : Tag) (st : TagState) : (s.setTagState p t st).pool = s.pool := rfl
@[simp] theorem State.setTagState_mpt (p : Port) (t : Tag) (st : TagState) : (s.setTagState p t st).mpt = s.mpt := rfl
@[simp] theorem State.setTagState_ape (p : Port) (t : Tag) (st : TagState) : (s.setTagState p t st).ape = s.ape := rfl
@[simp] theorem State.setTagState_vom (p : Port) (t : Tag) (st : TagState) : (s.setTagState p t st).vom = s.vom := rfl
@[simp] theorem State.setTagState_scratch (p : Port) (t : Tag) (st : TagState) : (s.setTagState p t st).scratch = s.scratch := rfl
@[simp] theorem State.setTagState_ejectInhibit (p : Port) (t : Tag) (st : TagState) : (s.setTagState p t st).ejectInhibit = s.ejectInhibit := rfl
@[simp] theorem State.setTagState_cursors (p : Port) (t : Tag) (st : TagState) : (s.setTagState p t st).cursors = s.cursors := rfl
@[simp] theorem State.setTagState_srt (p : Port) (t : Tag) (st : TagState) : (s.setTagState p t st).srt = s.srt := rfl
@[simp] theorem State.setTagState_ntu (p : Port) (t : Tag) (st : TagState) : (s.setTagState p t st).ntu = s.ntu := rfl
@[simp] theorem State.setTagState_signals (p : Port) (t : Tag) (st : TagState) : (s.setTagState p t st).signals = s.signals := rfl
@[simp] theorem State.setTagState_choice (p : Port) (t : Tag) (st : TagState) : (s.setTagState p t st).choice = s.choice := rfl

/-! ### State.setQueue -/

@[simp] theorem State.setQueue_pending (q : List Entry) : (s.setQueue q).pending = s.pending := rfl
@[simp] theorem State.setQueue_ctl (q : List Entry) : (s.setQueue q).ctl = s.ctl := rfl
@[simp] theorem State.setQueue_params (q : List Entry) : (s.setQueue q).params = s.params := rfl
@[simp] theorem State.setQueue_ports (q : List Entry) : (s.setQueue q).ports = s.ports := rfl
@[simp] theorem State.setQueue_pool (q : List Entry) : (s.setQueue q).pool = s.pool := rfl
@[simp] theorem State.setQueue_mpt (q : List Entry) : (s.setQueue q).mpt = s.mpt := rfl
@[simp] theorem State.setQueue_ape (q : List Entry) : (s.setQueue q).ape = s.ape := rfl
@[simp] theorem State.setQueue_vom (q : List Entry) : (s.setQueue q).vom = s.vom := rfl
@[simp] theorem State.setQueue_scratch (q : List Entry) : (s.setQueue q).scratch = s.scratch := rfl
@[simp] theorem State.setQueue_ejectInhibit (q : List Entry) : (s.setQueue q).ejectInhibit = s.ejectInhibit := rfl
@[simp] theorem State.setQueue_cursors (q : List Entry) : (s.setQueue q).cursors = s.cursors := rfl
@[simp] theorem State.setQueue_srt (q : List Entry) : (s.setQueue q).srt = s.srt := rfl
@[simp] theorem State.setQueue_ntu (q : List Entry) : (s.setQueue q).ntu = s.ntu := rfl
@[simp] theorem State.setQueue_signals (q : List Entry) : (s.setQueue q).signals = s.signals := rfl
@[simp] theorem State.setQueue_choice (q : List Entry) : (s.setQueue q).choice = s.choice := rfl

/-! ### State.setEngine -/

@[simp] theorem State.setEngine_pending (st : EngineState) : (s.setEngine st).pending = s.pending := rfl
@[simp] theorem State.setEngine_ctl (st : EngineState) : (s.setEngine st).ctl = s.ctl := rfl
@[simp] theorem State.setEngine_params (st : EngineState) : (s.setEngine st).params = s.params := rfl
@[simp] theorem State.setEngine_ports (st : EngineState) : (s.setEngine st).ports = s.ports := rfl
@[simp] theorem State.setEngine_adu (st : EngineState) : (s.setEngine st).adu = s.adu := rfl
@[simp] theorem State.setEngine_pool (st : EngineState) : (s.setEngine st).pool = s.pool := rfl
@[simp] theorem State.setEngine_mpt (st : EngineState) : (s.setEngine st).mpt = s.mpt := rfl
@[simp] theorem State.setEngine_vom (st : EngineState) : (s.setEngine st).vom = s.vom := rfl
@[simp] theorem State.setEngine_scratch (st : EngineState) : (s.setEngine st).scratch = s.scratch := rfl
@[simp] theorem State.setEngine_ejectInhibit (st : EngineState) : (s.setEngine st).ejectInhibit = s.ejectInhibit := rfl
@[simp] theorem State.setEngine_cursors (st : EngineState) : (s.setEngine st).cursors = s.cursors := rfl
@[simp] theorem State.setEngine_srt (st : EngineState) : (s.setEngine st).srt = s.srt := rfl
@[simp] theorem State.setEngine_ntu (st : EngineState) : (s.setEngine st).ntu = s.ntu := rfl
@[simp] theorem State.setEngine_signals (st : EngineState) : (s.setEngine st).signals = s.signals := rfl
@[simp] theorem State.setEngine_choice (st : EngineState) : (s.setEngine st).choice = s.choice := rfl

/-! ### State.setVol -/

@[simp] theorem State.setVol_pending (st : VolState) : (s.setVol st).pending = s.pending := rfl
@[simp] theorem State.setVol_ctl (st : VolState) : (s.setVol st).ctl = s.ctl := rfl
@[simp] theorem State.setVol_params (st : VolState) : (s.setVol st).params = s.params := rfl
@[simp] theorem State.setVol_ports (st : VolState) : (s.setVol st).ports = s.ports := rfl
@[simp] theorem State.setVol_adu (st : VolState) : (s.setVol st).adu = s.adu := rfl
@[simp] theorem State.setVol_pool (st : VolState) : (s.setVol st).pool = s.pool := rfl
@[simp] theorem State.setVol_mpt (st : VolState) : (s.setVol st).mpt = s.mpt := rfl
@[simp] theorem State.setVol_ape (st : VolState) : (s.setVol st).ape = s.ape := rfl
@[simp] theorem State.setVol_scratch (st : VolState) : (s.setVol st).scratch = s.scratch := rfl
@[simp] theorem State.setVol_ejectInhibit (st : VolState) : (s.setVol st).ejectInhibit = s.ejectInhibit := rfl
@[simp] theorem State.setVol_cursors (st : VolState) : (s.setVol st).cursors = s.cursors := rfl
@[simp] theorem State.setVol_srt (st : VolState) : (s.setVol st).srt = s.srt := rfl
@[simp] theorem State.setVol_ntu (st : VolState) : (s.setVol st).ntu = s.ntu := rfl
@[simp] theorem State.setVol_signals (st : VolState) : (s.setVol st).signals = s.signals := rfl
@[simp] theorem State.setVol_choice (st : VolState) : (s.setVol st).choice = s.choice := rfl

/-! ### State.setTest -/

@[simp] theorem State.setTest_pending (st : TestState) (lines : BitVec 4) : (s.setTest st lines).pending = s.pending := rfl
@[simp] theorem State.setTest_params (st : TestState) (lines : BitVec 4) : (s.setTest st lines).params = s.params := rfl
@[simp] theorem State.setTest_ports (st : TestState) (lines : BitVec 4) : (s.setTest st lines).ports = s.ports := rfl
@[simp] theorem State.setTest_adu (st : TestState) (lines : BitVec 4) : (s.setTest st lines).adu = s.adu := rfl
@[simp] theorem State.setTest_pool (st : TestState) (lines : BitVec 4) : (s.setTest st lines).pool = s.pool := rfl
@[simp] theorem State.setTest_mpt (st : TestState) (lines : BitVec 4) : (s.setTest st lines).mpt = s.mpt := rfl
@[simp] theorem State.setTest_ape (st : TestState) (lines : BitVec 4) : (s.setTest st lines).ape = s.ape := rfl
@[simp] theorem State.setTest_vom (st : TestState) (lines : BitVec 4) : (s.setTest st lines).vom = s.vom := rfl
@[simp] theorem State.setTest_scratch (st : TestState) (lines : BitVec 4) : (s.setTest st lines).scratch = s.scratch := rfl
@[simp] theorem State.setTest_ejectInhibit (st : TestState) (lines : BitVec 4) : (s.setTest st lines).ejectInhibit = s.ejectInhibit := rfl
@[simp] theorem State.setTest_cursors (st : TestState) (lines : BitVec 4) : (s.setTest st lines).cursors = s.cursors := rfl
@[simp] theorem State.setTest_srt (st : TestState) (lines : BitVec 4) : (s.setTest st lines).srt = s.srt := rfl
@[simp] theorem State.setTest_ntu (st : TestState) (lines : BitVec 4) : (s.setTest st lines).ntu = s.ntu := rfl
@[simp] theorem State.setTest_signals (st : TestState) (lines : BitVec 4) : (s.setTest st lines).signals = s.signals := rfl
@[simp] theorem State.setTest_choice (st : TestState) (lines : BitVec 4) : (s.setTest st lines).choice = s.choice := rfl

/-! ### State.chosen -/

@[simp] theorem State.chosen_pending : (s.chosen).pending = s.pending := rfl
@[simp] theorem State.chosen_ctl : (s.chosen).ctl = s.ctl := rfl
@[simp] theorem State.chosen_params : (s.chosen).params = s.params := rfl
@[simp] theorem State.chosen_ports : (s.chosen).ports = s.ports := rfl
@[simp] theorem State.chosen_adu : (s.chosen).adu = s.adu := rfl
@[simp] theorem State.chosen_pool : (s.chosen).pool = s.pool := rfl
@[simp] theorem State.chosen_mpt : (s.chosen).mpt = s.mpt := rfl
@[simp] theorem State.chosen_ape : (s.chosen).ape = s.ape := rfl
@[simp] theorem State.chosen_vom : (s.chosen).vom = s.vom := rfl
@[simp] theorem State.chosen_scratch : (s.chosen).scratch = s.scratch := rfl
@[simp] theorem State.chosen_ejectInhibit : (s.chosen).ejectInhibit = s.ejectInhibit := rfl
@[simp] theorem State.chosen_cursors : (s.chosen).cursors = s.cursors := rfl
@[simp] theorem State.chosen_srt : (s.chosen).srt = s.srt := rfl
@[simp] theorem State.chosen_ntu : (s.chosen).ntu = s.ntu := rfl
@[simp] theorem State.chosen_signals : (s.chosen).signals = s.signals := rfl

/-! ### State.mapBlocks -/

@[simp] theorem State.mapBlocks_pending (f : Block → Block) : (s.mapBlocks f).pending = s.pending := rfl
@[simp] theorem State.mapBlocks_ctl (f : Block → Block) : (s.mapBlocks f).ctl = s.ctl := rfl
@[simp] theorem State.mapBlocks_params (f : Block → Block) : (s.mapBlocks f).params = s.params := rfl
@[simp] theorem State.mapBlocks_ports (f : Block → Block) : (s.mapBlocks f).ports = s.ports := rfl
@[simp] theorem State.mapBlocks_adu (f : Block → Block) : (s.mapBlocks f).adu = s.adu := rfl
@[simp] theorem State.mapBlocks_mpt (f : Block → Block) : (s.mapBlocks f).mpt = s.mpt := rfl
@[simp] theorem State.mapBlocks_vom (f : Block → Block) : (s.mapBlocks f).vom = s.vom := rfl
@[simp] theorem State.mapBlocks_scratch (f : Block → Block) : (s.mapBlocks f).scratch = s.scratch := rfl
@[simp] theorem State.mapBlocks_ejectInhibit (f : Block → Block) : (s.mapBlocks f).ejectInhibit = s.ejectInhibit := rfl
@[simp] theorem State.mapBlocks_cursors (f : Block → Block) : (s.mapBlocks f).cursors = s.cursors := rfl
@[simp] theorem State.mapBlocks_srt (f : Block → Block) : (s.mapBlocks f).srt = s.srt := rfl
@[simp] theorem State.mapBlocks_ntu (f : Block → Block) : (s.mapBlocks f).ntu = s.ntu := rfl
@[simp] theorem State.mapBlocks_signals (f : Block → Block) : (s.mapBlocks f).signals = s.signals := rfl
@[simp] theorem State.mapBlocks_choice (f : Block → Block) : (s.mapBlocks f).choice = s.choice := rfl

/-! ### raise -/

@[simp] theorem raise_pending (g : Signal) : (raise g s).pending = s.pending := rfl
@[simp] theorem raise_ctl (g : Signal) : (raise g s).ctl = s.ctl := rfl
@[simp] theorem raise_params (g : Signal) : (raise g s).params = s.params := rfl
@[simp] theorem raise_ports (g : Signal) : (raise g s).ports = s.ports := rfl
@[simp] theorem raise_adu (g : Signal) : (raise g s).adu = s.adu := rfl
@[simp] theorem raise_pool (g : Signal) : (raise g s).pool = s.pool := rfl
@[simp] theorem raise_mpt (g : Signal) : (raise g s).mpt = s.mpt := rfl
@[simp] theorem raise_ape (g : Signal) : (raise g s).ape = s.ape := rfl
@[simp] theorem raise_vom (g : Signal) : (raise g s).vom = s.vom := rfl
@[simp] theorem raise_scratch (g : Signal) : (raise g s).scratch = s.scratch := rfl
@[simp] theorem raise_ejectInhibit (g : Signal) : (raise g s).ejectInhibit = s.ejectInhibit := rfl
@[simp] theorem raise_cursors (g : Signal) : (raise g s).cursors = s.cursors := rfl
@[simp] theorem raise_srt (g : Signal) : (raise g s).srt = s.srt := rfl
@[simp] theorem raise_ntu (g : Signal) : (raise g s).ntu = s.ntu := rfl
@[simp] theorem raise_choice (g : Signal) : (raise g s).choice = s.choice := rfl

/-! ### driveInhibit -/

@[simp] theorem driveInhibit_pending : (driveInhibit s).pending = s.pending := rfl
@[simp] theorem driveInhibit_ctl : (driveInhibit s).ctl = s.ctl := rfl
@[simp] theorem driveInhibit_params : (driveInhibit s).params = s.params := rfl
@[simp] theorem driveInhibit_ports : (driveInhibit s).ports = s.ports := rfl
@[simp] theorem driveInhibit_adu : (driveInhibit s).adu = s.adu := rfl
@[simp] theorem driveInhibit_pool : (driveInhibit s).pool = s.pool := rfl
@[simp] theorem driveInhibit_mpt : (driveInhibit s).mpt = s.mpt := rfl
@[simp] theorem driveInhibit_ape : (driveInhibit s).ape = s.ape := rfl
@[simp] theorem driveInhibit_vom : (driveInhibit s).vom = s.vom := rfl
@[simp] theorem driveInhibit_scratch : (driveInhibit s).scratch = s.scratch := rfl
@[simp] theorem driveInhibit_cursors : (driveInhibit s).cursors = s.cursors := rfl
@[simp] theorem driveInhibit_srt : (driveInhibit s).srt = s.srt := rfl
@[simp] theorem driveInhibit_ntu : (driveInhibit s).ntu = s.ntu := rfl
@[simp] theorem driveInhibit_signals : (driveInhibit s).signals = s.signals := rfl
@[simp] theorem driveInhibit_choice : (driveInhibit s).choice = s.choice := rfl

/-! ### The fields an update writes -/

@[simp] theorem State.setPort_ports (p : Port) (h : HostPort) : (s.setPort p h).ports = s.ports.set p h := rfl
@[simp] theorem State.setNotices_ntu (p : Port) (n : NoticeUnit) : (s.setNotices p n).ntu = s.ntu.set p n := rfl
@[simp] theorem State.setCursor_cursors (p : Port) (c : Cursor) : (s.setCursor p c).cursors = s.cursors.set p c := rfl
@[simp] theorem State.setQueue_adu (q : List Entry) : (s.setQueue q).adu = { s.adu with queue := q } := rfl
@[simp] theorem State.setEngine_ape (st : EngineState) : (s.setEngine st).ape = { s.ape with state := st } := rfl
@[simp] theorem State.setVol_vom (st : VolState) : (s.setVol st).vom = { s.vom with state := st } := rfl
@[simp] theorem State.setTest_ctl (st : TestState) (lines : BitVec 4) :
    (s.setTest st lines).ctl = { s.ctl with test := st, testLines := lines } := rfl
@[simp] theorem State.chosen_choice : s.chosen.choice = s.choice + 1 := rfl
@[simp] theorem raise_signals (g : Signal) : (raise g s).signals = s.signals ++ [g] := rfl
@[simp] theorem driveInhibit_ejectInhibit : (driveInhibit s).ejectInhibit = s.inhibitLaw := rfl

@[simp] theorem State.mapBlocks_free (f : Block → Block) : (s.mapBlocks f).pool.free = s.pool.free := rfl
@[simp] theorem State.mapBlocks_opened (f : Block → Block) : (s.mapBlocks f).pool.opened = s.pool.opened := rfl
@[simp] theorem State.mapBlocks_nextBsn (f : Block → Block) : (s.mapBlocks f).pool.nextBsn = s.pool.nextBsn := rfl
@[simp] theorem State.mapBlocks_sealed (f : Block → Block) : (s.mapBlocks f).pool.sealed = s.pool.sealed.map f := rfl
@[simp] theorem State.mapBlocks_state (f : Block → Block) : (s.mapBlocks f).ape.state = s.ape.state := rfl
@[simp] theorem State.mapBlocks_yield (f : Block → Block) : (s.mapBlocks f).ape.yield = s.ape.yield := rfl

/-! ### MediumPort -/

@[simp] theorem MediumPort.send_head (m : MediumPort) (op : DriveOp) (i : Issuer) (r : Bool) :
    (m.send op i r).head = m.head := rfl
@[simp] theorem MediumPort.send_holder (m : MediumPort) (op : DriveOp) (i : Issuer) (r : Bool) :
    (m.send op i r).holder = m.holder := rfl
@[simp] theorem MediumPort.send_volumeWaits (m : MediumPort) (op : DriveOp) (i : Issuer) (r : Bool) :
    (m.send op i r).volumeWaits = m.volumeWaits := rfl
@[simp] theorem MediumPort.send_engineWaits (m : MediumPort) (op : DriveOp) (i : Issuer) (r : Bool) :
    (m.send op i r).engineWaits = m.engineWaits := rfl
@[simp] theorem MediumPort.send_cursorWaits (m : MediumPort) (op : DriveOp) (i : Issuer) (r : Bool) :
    (m.send op i r).cursorWaits = m.cursorWaits := rfl
@[simp] theorem MediumPort.send_writes (m : MediumPort) (op : DriveOp) (i : Issuer) (r : Bool) :
    (m.send op i r).writes = m.writes := rfl
@[simp] theorem MediumPort.send_burstLimit (m : MediumPort) (op : DriveOp) (i : Issuer) (r : Bool) :
    (m.send op i r).burstLimit = m.burstLimit := rfl
@[simp] theorem MediumPort.send_lastServed (m : MediumPort) (op : DriveOp) (i : Issuer) (r : Bool) :
    (m.send op i r).lastServed = m.lastServed := rfl
@[simp] theorem MediumPort.send_link (m : MediumPort) (op : DriveOp) (i : Issuer) (r : Bool) :
    (m.send op i r).link = some { op := op, number := m.nextOp, issuer := i } := rfl
@[simp] theorem MediumPort.send_timer (m : MediumPort) (op : DriveOp) (i : Issuer) (r : Bool) :
    (m.send op i r).timer = some Config.opLimit := rfl
@[simp] theorem MediumPort.send_nextOp (m : MediumPort) (op : DriveOp) (i : Issuer) (r : Bool) :
    (m.send op i r).nextOp = m.nextOp + 1 := rfl
@[simp] theorem MediumPort.send_retry (m : MediumPort) (op : DriveOp) (i : Issuer) (r : Bool) :
    (m.send op i r).retry = r := rfl
@[simp] theorem MediumPort.setWaits_link (m : MediumPort) (c : Client) (b : Bool) :
    (m.setWaits c b).link = m.link := by cases c <;> rfl
@[simp] theorem MediumPort.setWaits_timer (m : MediumPort) (c : Client) (b : Bool) :
    (m.setWaits c b).timer = m.timer := by cases c <;> rfl
@[simp] theorem MediumPort.setWaits_retry (m : MediumPort) (c : Client) (b : Bool) :
    (m.setWaits c b).retry = m.retry := by cases c <;> rfl
@[simp] theorem MediumPort.setWaits_nextOp (m : MediumPort) (c : Client) (b : Bool) :
    (m.setWaits c b).nextOp = m.nextOp := by cases c <;> rfl
@[simp] theorem MediumPort.setWaits_head (m : MediumPort) (c : Client) (b : Bool) :
    (m.setWaits c b).head = m.head := by cases c <;> rfl
@[simp] theorem MediumPort.setWaits_holder (m : MediumPort) (c : Client) (b : Bool) :
    (m.setWaits c b).holder = m.holder := by cases c <;> rfl
@[simp] theorem MediumPort.setWaits_writes (m : MediumPort) (c : Client) (b : Bool) :
    (m.setWaits c b).writes = m.writes := by cases c <;> rfl
@[simp] theorem MediumPort.setWaits_burstLimit (m : MediumPort) (c : Client) (b : Bool) :
    (m.setWaits c b).burstLimit = m.burstLimit := by cases c <;> rfl
@[simp] theorem MediumPort.setWaits_lastServed (m : MediumPort) (c : Client) (b : Bool) :
    (m.setWaits c b).lastServed = m.lastServed := by cases c <;> rfl

/-! ### Reads after writes -/

theorem State.port_eq (p : Port) : s.port p = s.ports[p] := rfl

@[simp] theorem State.port_setPort_same (p : Port) (h : HostPort) : (s.setPort p h).port p = h := by
  simp [State.port, State.setPort]

theorem State.port_setPort (p q : Port) (h : HostPort) : (s.setPort p h).port q = if p = q then h else s.port q := by
  simp [State.port, State.setPort, Vector.getElem_set, Fin.ext_iff]

theorem State.port_setPort_other {p q : Port} (h : HostPort) (ne : p ≠ q) : (s.setPort p h).port q = s.port q := by
  rw [State.port_setPort, if_neg ne]

@[simp] theorem State.setPort_setPort (p : Port) (h k : HostPort) : (s.setPort p h).setPort p k = s.setPort p k := by
  simp [State.setPort]

@[simp] theorem State.setPort_self (p : Port) : s.setPort p (s.port p) = s := by
  simp [State.port, State.setPort]

@[simp] theorem State.notices_setNotices_same (p : Port) (n : NoticeUnit) : (s.setNotices p n).notices p = n := by
  simp [State.notices, State.setNotices]

theorem State.notices_setNotices (p q : Port) (n : NoticeUnit) :
    (s.setNotices p n).notices q = if p = q then n else s.notices q := by
  simp [State.notices, State.setNotices, Vector.getElem_set, Fin.ext_iff]

@[simp] theorem State.setNotices_self (p : Port) : s.setNotices p (s.notices p) = s := by
  simp [State.notices, State.setNotices]

@[simp] theorem State.notices_setPort (p q : Port) (h : HostPort) : (s.setPort p h).notices q = s.notices q := rfl
@[simp] theorem State.port_setNotices (p q : Port) (n : NoticeUnit) : (s.setNotices p n).port q = s.port q := rfl

@[simp] theorem State.cursor_setCursor_same (p : Port) (c : Cursor) : (s.setCursor p c).cursor p = c := by
  simp [State.cursor, State.setCursor]

theorem State.cursor_setCursor (p q : Port) (c : Cursor) :
    (s.setCursor p c).cursor q = if p = q then c else s.cursor q := by
  simp [State.cursor, State.setCursor, Vector.getElem_set, Fin.ext_iff]

@[simp] theorem State.setCursor_setCursor (p : Port) (c d : Cursor) :
    (s.setCursor p c).setCursor p d = s.setCursor p d := by
  simp [State.setCursor]

@[simp] theorem State.setCursor_self (p : Port) : s.setCursor p (s.cursor p) = s := by
  simp [State.cursor, State.setCursor]

@[simp] theorem State.cursor_setPort (p q : Port) (h : HostPort) : (s.setPort p h).cursor q = s.cursor q := rfl
@[simp] theorem State.cursor_setNotices (p q : Port) (n : NoticeUnit) : (s.setNotices p n).cursor q = s.cursor q := rfl
@[simp] theorem State.port_setCursor (p q : Port) (c : Cursor) : (s.setCursor p c).port q = s.port q := rfl
@[simp] theorem State.notices_setCursor (p q : Port) (c : Cursor) : (s.setCursor p c).notices q = s.notices q := rfl

@[simp] theorem State.stream_setStream_same (x : StreamId) (e : StreamEntry) : (s.setStream x e).stream x = e := by
  simp [State.stream, State.setStream]

theorem State.stream_setStream (x y : StreamId) (e : StreamEntry) :
    (s.setStream x e).stream y = if x = y then e else s.stream y := by
  simp [State.stream, State.setStream, Vector.getElem_set, Fin.ext_iff]

@[simp] theorem HostPort.slot_setSlot_same (h : HostPort) (t : Tag) (x : TagSlot) : (h.setSlot t x).slot t = x := by
  simp [HostPort.slot, HostPort.setSlot]

theorem HostPort.slot_setSlot (h : HostPort) (t u : Tag) (x : TagSlot) :
    (h.setSlot t x).slot u = if t = u then x else h.slot u := by
  simp [HostPort.slot, HostPort.setSlot, Vector.getElem_set, Fin.ext_iff]

@[simp] theorem HostPort.setSlot_setSlot (h : HostPort) (t : Tag) (x y : TagSlot) :
    (h.setSlot t x).setSlot t y = h.setSlot t y := by
  simp [HostPort.setSlot]

@[simp] theorem HostPort.setSlot_up (h : HostPort) (t : Tag) (x : TagSlot) : (h.setSlot t x).up = h.up := rfl
@[simp] theorem HostPort.setSlot_activity (h : HostPort) (t : Tag) (x : TagSlot) :
    (h.setSlot t x).activity = h.activity := rfl
@[simp] theorem HostPort.setSlot_errors (h : HostPort) (t : Tag) (x : TagSlot) : (h.setSlot t x).errors = h.errors := rfl
@[simp] theorem HostPort.setSlot_transmit (h : HostPort) (t : Tag) (x : TagSlot) :
    (h.setSlot t x).transmit = h.transmit := rfl
@[simp] theorem HostPort.setSlot_waiting (h : HostPort) (t : Tag) (x : TagSlot) :
    (h.setSlot t x).waiting = h.waiting := rfl

@[simp] theorem State.slot_setSlot_same (p : Port) (t : Tag) (x : TagSlot) : (s.setSlot p t x).slot p t = x := by
  simp [State.slot, State.setSlot]

end Sys2Proof.Machine
end

