-- ==== Sys2Proof/Laws/Ops.lean ====
section
/-! SUPPORT. What the shared operations at a host port do: placing, replying, taking a request; and what the end of a step
does when no report is left. -/

namespace Sys2Proof.Machine

open Sys2Proof

/-! ### The end of a step -/

theorem settle_quiet (n : Nat) (s : State) (h : s.signals = []) : settle n s = s := by
  cases n <;> simp [settle, h]

theorem finish_quiet (s : State) (h : s.signals = []) : finish s = .next (driveInhibit s) := by
  simp [finish, settle_quiet, h]

theorem settle_cons (n : Nat) (s : State) (g : Signal) (rest : List Signal) (h : s.signals = g :: rest) :
    settle (n + 1) s = settle n (settleOne g rest s) := by
  simp [settle, h]

/-- A step always answers a next state. -/
theorem finish_next (s : State) : ∃ t, finish s = .next t := ⟨_, rfl⟩

/-! ### Placing (R171) -/

@[simp] theorem placeItems_nil (h : HostPort) (n : NoticeUnit) : placeItems [] h n = ({ h with waiting := [] }, n) := rfl

/-- Where nothing waits, nothing is placed. -/
theorem place_clear (p : Port) (s : State) (h : (s.port p).waiting = []) : place p s = s := by
  have e : ({ s.port p with waiting := [] } : HostPort) = s.port p := by
    rw [← h]
  simp [place, h, e]

/-- What a reply is, generated in a state for a slot. -/
def State.replyFor (s : State) (p : Port) (t : Tag) (st : Status) (body : ReplyBody) (already gap : Bool) : Reply :=
  { tag := t, kind := (s.slot p t).kindByte, status := st, body := body,
    indicators := s.indicators (s.slot p t).kindByte already gap }

/-- Where the link is up and the transmit queue has room, a reply goes straight to its tail and the tag is IDLE (R167,
R171). -/
theorem replyWith_now (p : Port) (t : Tag) (st : Status) (body : ReplyBody) (already gap : Bool) (s : State)
    (busy : (s.slot p t).state ≠ .idle) (up : (s.port p).up = true) (clear : (s.port p).waiting = [])
    (room : (s.port p).transmit.length < Config.transmitLimit) :
    replyWith p t st body already gap s =
      s.setPort p { (s.port p).setSlot t TagSlot.idle with
        transmit := (s.port p).transmit ++ [.reply (s.replyFor p t st body already gap)] } := by
  simp [replyWith, busy, place, placeItems, placeOne, up, clear, room, State.replyFor]
  simp [State.setNotices, State.notices, State.setPort, HostPort.setSlot, HostPort.slot]

/-- A reply for an IDLE tag is discarded (R167). -/
theorem replyWith_idle (p : Port) (t : Tag) (st : Status) (body : ReplyBody) (already gap : Bool) (s : State)
    (idle : (s.slot p t).state = .idle) : replyWith p t st body already gap s = s := by
  simp [replyWith, idle]

end Sys2Proof.Machine
end

