-- ==== Sys2Proof/Laws/Frames.lean ====
section
/-! SUPPORT. Frames: for each shared operation, one lemma that says which parts of State it leaves as they were. Each is a
conjunction of equations, so that simp rewrites with every one of them. -/

namespace Sys2Proof.Machine

open Sys2Proof

@[simp] theorem place_keeps (p : Port) (s : State) :
    (place p s).pending = s.pending ∧ (place p s).ctl = s.ctl ∧ (place p s).params = s.params ∧ (place p s).adu = s.adu ∧
    (place p s).pool = s.pool ∧ (place p s).mpt = s.mpt ∧ (place p s).ape = s.ape ∧ (place p s).vom = s.vom ∧
    (place p s).scratch = s.scratch ∧ (place p s).ejectInhibit = s.ejectInhibit ∧ (place p s).cursors = s.cursors ∧
    (place p s).srt = s.srt ∧ (place p s).signals = s.signals ∧ (place p s).choice = s.choice := by
  unfold place
  try dsimp only
  simp

@[simp] theorem replyWith_keeps (p : Port) (t : Tag) (st : Status) (body : ReplyBody) (already gap : Bool) (s : State) :
    (replyWith p t st body already gap s).pending = s.pending ∧ (replyWith p t st body already gap s).ctl = s.ctl ∧
    (replyWith p t st body already gap s).params = s.params ∧ (replyWith p t st body already gap s).adu = s.adu ∧
    (replyWith p t st body already gap s).pool = s.pool ∧ (replyWith p t st body already gap s).mpt = s.mpt ∧
    (replyWith p t st body already gap s).ape = s.ape ∧ (replyWith p t st body already gap s).vom = s.vom ∧
    (replyWith p t st body already gap s).scratch = s.scratch ∧
    (replyWith p t st body already gap s).ejectInhibit = s.ejectInhibit ∧
    (replyWith p t st body already gap s).cursors = s.cursors ∧ (replyWith p t st body already gap s).srt = s.srt ∧
    (replyWith p t st body already gap s).signals = s.signals ∧
    (replyWith p t st body already gap s).choice = s.choice := by
  unfold replyWith
  try dsimp only
  (repeat' split) <;> simp

@[simp] theorem reply_keeps (p : Port) (t : Tag) (st : Status) (body : ReplyBody) (s : State) :
    (reply p t st body s).pending = s.pending ∧ (reply p t st body s).ctl = s.ctl ∧
    (reply p t st body s).params = s.params ∧ (reply p t st body s).adu = s.adu ∧ (reply p t st body s).pool = s.pool ∧
    (reply p t st body s).mpt = s.mpt ∧ (reply p t st body s).ape = s.ape ∧ (reply p t st body s).vom = s.vom ∧
    (reply p t st body s).scratch = s.scratch ∧ (reply p t st body s).ejectInhibit = s.ejectInhibit ∧
    (reply p t st body s).cursors = s.cursors ∧ (reply p t st body s).srt = s.srt ∧
    (reply p t st body s).signals = s.signals ∧ (reply p t st body s).choice = s.choice := by
  unfold reply
  try dsimp only
  simp

@[simp] theorem post_keeps (p : Port) (body : Notice) (s : State) :
    (post p body s).pending = s.pending ∧ (post p body s).ctl = s.ctl ∧ (post p body s).params = s.params ∧
    (post p body s).adu = s.adu ∧ (post p body s).pool = s.pool ∧ (post p body s).mpt = s.mpt ∧
    (post p body s).ape = s.ape ∧ (post p body s).vom = s.vom ∧ (post p body s).scratch = s.scratch ∧
    (post p body s).ejectInhibit = s.ejectInhibit ∧ (post p body s).cursors = s.cursors ∧ (post p body s).srt = s.srt ∧
    (post p body s).signals = s.signals ∧ (post p body s).choice = s.choice := by
  unfold post
  try dsimp only
  simp

@[simp] theorem postAll_keeps (l : List Port) (body : Notice) (s : State) :
    (postAll l body s).pending = s.pending ∧ (postAll l body s).ctl = s.ctl ∧ (postAll l body s).params = s.params ∧
    (postAll l body s).adu = s.adu ∧ (postAll l body s).pool = s.pool ∧ (postAll l body s).mpt = s.mpt ∧
    (postAll l body s).ape = s.ape ∧ (postAll l body s).vom = s.vom ∧ (postAll l body s).scratch = s.scratch ∧
    (postAll l body s).ejectInhibit = s.ejectInhibit ∧ (postAll l body s).cursors = s.cursors ∧
    (postAll l body s).srt = s.srt ∧ (postAll l body s).signals = s.signals ∧ (postAll l body s).choice = s.choice := by
  induction l generalizing s with
  | nil => simp [postAll]
  | cons a l ih => unfold postAll at *; simp [List.foldl, ih]

@[simp] theorem evalLevel_keeps (s : State) :
    (evalLevel s).pending = s.pending ∧ (evalLevel s).ctl = s.ctl ∧ (evalLevel s).params = s.params ∧
    (evalLevel s).adu = s.adu ∧ (evalLevel s).pool = s.pool ∧ (evalLevel s).mpt = s.mpt ∧ (evalLevel s).ape = s.ape ∧
    (evalLevel s).scratch = s.scratch ∧ (evalLevel s).ejectInhibit = s.ejectInhibit ∧ (evalLevel s).cursors = s.cursors ∧
    (evalLevel s).srt = s.srt ∧ (evalLevel s).signals = s.signals ∧ (evalLevel s).choice = s.choice ∧
    (evalLevel s).vom.state = s.vom.state ∧ (evalLevel s).vom.cause = s.vom.cause ∧
    (evalLevel s).vom.serial = s.vom.serial ∧ (evalLevel s).vom.capacity = s.vom.capacity ∧
    (evalLevel s).vom.appendPoint = s.vom.appendPoint ∧ (evalLevel s).vom.remaining = s.vom.remaining ∧
    (evalLevel s).vom.session = s.vom.session ∧ (evalLevel s).vom.frontier = s.vom.frontier ∧
    (evalLevel s).vom.frontierSlot = s.vom.frontierSlot ∧ (evalLevel s).vom.highestRsn = s.vom.highestRsn ∧
    (evalLevel s).vom.lost = s.vom.lost ∧ (evalLevel s).vom.unload = s.vom.unload := by
  unfold evalLevel
  try dsimp only
  (repeat' split) <;> simp

@[simp] theorem recomputeR_keeps (s : State) :
    (recomputeR s).pending = s.pending ∧ (recomputeR s).ctl = s.ctl ∧ (recomputeR s).params = s.params ∧
    (recomputeR s).adu = s.adu ∧ (recomputeR s).pool = s.pool ∧ (recomputeR s).mpt = s.mpt ∧ (recomputeR s).ape = s.ape ∧
    (recomputeR s).scratch = s.scratch ∧ (recomputeR s).ejectInhibit = s.ejectInhibit ∧
    (recomputeR s).cursors = s.cursors ∧ (recomputeR s).srt = s.srt ∧ (recomputeR s).signals = s.signals ∧
    (recomputeR s).choice = s.choice ∧ (recomputeR s).vom.state = s.vom.state ∧ (recomputeR s).vom.cause = s.vom.cause ∧
    (recomputeR s).vom.serial = s.vom.serial ∧ (recomputeR s).vom.capacity = s.vom.capacity ∧
    (recomputeR s).vom.appendPoint = s.vom.appendPoint ∧ (recomputeR s).vom.session = s.vom.session ∧
    (recomputeR s).vom.frontier = s.vom.frontier ∧ (recomputeR s).vom.frontierSlot = s.vom.frontierSlot ∧
    (recomputeR s).vom.highestRsn = s.vom.highestRsn ∧ (recomputeR s).vom.lost = s.vom.lost ∧
    (recomputeR s).vom.unload = s.vom.unload := by
  unfold recomputeR
  try dsimp only
  (repeat' split) <;> simp

@[simp] theorem openBlock_keeps (s : State) :
    (openBlock s).pending = s.pending ∧ (openBlock s).ctl = s.ctl ∧ (openBlock s).params = s.params ∧
    (openBlock s).adu = s.adu ∧ (openBlock s).mpt = s.mpt ∧ (openBlock s).ape = s.ape ∧
    (openBlock s).scratch = s.scratch ∧ (openBlock s).ejectInhibit = s.ejectInhibit ∧ (openBlock s).cursors = s.cursors ∧
    (openBlock s).srt = s.srt ∧ (openBlock s).signals = s.signals ∧ (openBlock s).choice = s.choice ∧
    (openBlock s).pool.sealed = s.pool.sealed ∧ (openBlock s).pool.nextBsn = s.pool.nextBsn ∧
    (openBlock s).vom.state = s.vom.state ∧ (openBlock s).vom.cause = s.vom.cause ∧
    (openBlock s).vom.serial = s.vom.serial ∧ (openBlock s).vom.capacity = s.vom.capacity ∧
    (openBlock s).vom.appendPoint = s.vom.appendPoint ∧ (openBlock s).vom.session = s.vom.session ∧
    (openBlock s).vom.frontier = s.vom.frontier ∧ (openBlock s).vom.frontierSlot = s.vom.frontierSlot ∧
    (openBlock s).vom.highestRsn = s.vom.highestRsn ∧ (openBlock s).vom.lost = s.vom.lost ∧
    (openBlock s).vom.unload = s.vom.unload := by
  unfold openBlock
  try dsimp only
  (repeat' split) <;> simp

@[simp] theorem placeRecord_keeps (r : Record) (s : State) :
    (placeRecord r s).pending = s.pending ∧ (placeRecord r s).ctl = s.ctl ∧ (placeRecord r s).params = s.params ∧
    (placeRecord r s).ports = s.ports ∧ (placeRecord r s).adu = s.adu ∧ (placeRecord r s).mpt = s.mpt ∧
    (placeRecord r s).ape = s.ape ∧ (placeRecord r s).vom = s.vom ∧ (placeRecord r s).scratch = s.scratch ∧
    (placeRecord r s).ejectInhibit = s.ejectInhibit ∧ (placeRecord r s).cursors = s.cursors ∧
    (placeRecord r s).srt = s.srt ∧ (placeRecord r s).ntu = s.ntu ∧ (placeRecord r s).signals = s.signals ∧
    (placeRecord r s).choice = s.choice ∧ (placeRecord r s).pool.free = s.pool.free ∧
    (placeRecord r s).pool.sealed = s.pool.sealed ∧ (placeRecord r s).pool.nextBsn = s.pool.nextBsn := by
  unfold placeRecord
  try dsimp only
  simp

@[simp] theorem sealBlock_keeps (c : SealCause) (s : State) :
    (sealBlock c s).pending = s.pending ∧ (sealBlock c s).ctl = s.ctl ∧ (sealBlock c s).params = s.params ∧
    (sealBlock c s).adu = s.adu ∧ (sealBlock c s).mpt = s.mpt ∧ (sealBlock c s).ape = s.ape ∧
    (sealBlock c s).scratch = s.scratch ∧ (sealBlock c s).ejectInhibit = s.ejectInhibit ∧
    (sealBlock c s).cursors = s.cursors ∧ (sealBlock c s).srt = s.srt ∧ (sealBlock c s).choice = s.choice ∧
    (sealBlock c s).pool.free = s.pool.free ∧ (sealBlock c s).vom.state = s.vom.state ∧
    (sealBlock c s).vom.cause = s.vom.cause ∧ (sealBlock c s).vom.serial = s.vom.serial ∧
    (sealBlock c s).vom.capacity = s.vom.capacity ∧ (sealBlock c s).vom.appendPoint = s.vom.appendPoint ∧
    (sealBlock c s).vom.session = s.vom.session ∧ (sealBlock c s).vom.frontier = s.vom.frontier ∧
    (sealBlock c s).vom.frontierSlot = s.vom.frontierSlot ∧ (sealBlock c s).vom.highestRsn = s.vom.highestRsn ∧
    (sealBlock c s).vom.lost = s.vom.lost ∧ (sealBlock c s).vom.unload = s.vom.unload := by
  unfold sealBlock
  try dsimp only
  (repeat' split) <;> simp

@[simp] theorem joinWaiters_keeps (bsn : Nat) (p : Port) (t : Tag) (s : State) :
    (joinWaiters bsn p t s).pending = s.pending ∧ (joinWaiters bsn p t s).ctl = s.ctl ∧
    (joinWaiters bsn p t s).params = s.params ∧ (joinWaiters bsn p t s).ports = s.ports ∧
    (joinWaiters bsn p t s).adu = s.adu ∧ (joinWaiters bsn p t s).mpt = s.mpt ∧ (joinWaiters bsn p t s).vom = s.vom ∧
    (joinWaiters bsn p t s).scratch = s.scratch ∧ (joinWaiters bsn p t s).ejectInhibit = s.ejectInhibit ∧
    (joinWaiters bsn p t s).cursors = s.cursors ∧ (joinWaiters bsn p t s).srt = s.srt ∧
    (joinWaiters bsn p t s).ntu = s.ntu ∧ (joinWaiters bsn p t s).choice = s.choice ∧
    (joinWaiters bsn p t s).pool.free = s.pool.free ∧ (joinWaiters bsn p t s).pool.opened = s.pool.opened ∧
    (joinWaiters bsn p t s).pool.nextBsn = s.pool.nextBsn ∧ (joinWaiters bsn p t s).ape.state = s.ape.state ∧
    (joinWaiters bsn p t s).ape.yield = s.ape.yield := by
  unfold joinWaiters
  try dsimp only
  (repeat' split) <;> simp

@[simp] theorem dropWaiters_keeps (gone : Port × Tag → Bool) (s : State) :
    (dropWaiters gone s).pending = s.pending ∧ (dropWaiters gone s).ctl = s.ctl ∧
    (dropWaiters gone s).params = s.params ∧ (dropWaiters gone s).ports = s.ports ∧ (dropWaiters gone s).adu = s.adu ∧
    (dropWaiters gone s).mpt = s.mpt ∧ (dropWaiters gone s).vom = s.vom ∧ (dropWaiters gone s).scratch = s.scratch ∧
    (dropWaiters gone s).ejectInhibit = s.ejectInhibit ∧ (dropWaiters gone s).cursors = s.cursors ∧
    (dropWaiters gone s).srt = s.srt ∧ (dropWaiters gone s).ntu = s.ntu ∧ (dropWaiters gone s).signals = s.signals ∧
    (dropWaiters gone s).choice = s.choice ∧ (dropWaiters gone s).pool.free = s.pool.free ∧
    (dropWaiters gone s).pool.opened = s.pool.opened ∧ (dropWaiters gone s).pool.nextBsn = s.pool.nextBsn ∧
    (dropWaiters gone s).ape.state = s.ape.state ∧ (dropWaiters gone s).ape.yield = s.ape.yield := by
  unfold dropWaiters
  try dsimp only
  simp

@[simp] theorem freeBuffers_keeps (k : Nat) (s : State) :
    (freeBuffers k s).pending = s.pending ∧ (freeBuffers k s).ctl = s.ctl ∧ (freeBuffers k s).params = s.params ∧
    (freeBuffers k s).ports = s.ports ∧ (freeBuffers k s).adu = s.adu ∧ (freeBuffers k s).mpt = s.mpt ∧
    (freeBuffers k s).ape = s.ape ∧ (freeBuffers k s).vom = s.vom ∧ (freeBuffers k s).scratch = s.scratch ∧
    (freeBuffers k s).ejectInhibit = s.ejectInhibit ∧ (freeBuffers k s).cursors = s.cursors ∧
    (freeBuffers k s).srt = s.srt ∧ (freeBuffers k s).ntu = s.ntu ∧ (freeBuffers k s).choice = s.choice ∧
    (freeBuffers k s).pool.opened = s.pool.opened ∧ (freeBuffers k s).pool.sealed = s.pool.sealed ∧
    (freeBuffers k s).pool.nextBsn = s.pool.nextBsn := by
  unfold freeBuffers
  try dsimp only
  (repeat' split) <;> simp

@[simp] theorem yieldCheck_keeps (s : State) :
    (yieldCheck s).pending = s.pending ∧ (yieldCheck s).ctl = s.ctl ∧ (yieldCheck s).params = s.params ∧
    (yieldCheck s).ports = s.ports ∧ (yieldCheck s).adu = s.adu ∧ (yieldCheck s).pool = s.pool ∧
    (yieldCheck s).mpt = s.mpt ∧ (yieldCheck s).vom = s.vom ∧ (yieldCheck s).scratch = s.scratch ∧
    (yieldCheck s).ejectInhibit = s.ejectInhibit ∧ (yieldCheck s).cursors = s.cursors ∧ (yieldCheck s).srt = s.srt ∧
    (yieldCheck s).ntu = s.ntu ∧ (yieldCheck s).choice = s.choice ∧ (yieldCheck s).ape.state = s.ape.state ∧
    (yieldCheck s).ape.unverified = s.ape.unverified ∧ (yieldCheck s).ape.inWrite = s.ape.inWrite := by
  unfold yieldCheck
  try dsimp only
  (repeat' split) <;> simp

@[simp] theorem yieldRecheck_keeps (s : State) :
    (yieldRecheck s).pending = s.pending ∧ (yieldRecheck s).ctl = s.ctl ∧ (yieldRecheck s).params = s.params ∧
    (yieldRecheck s).ports = s.ports ∧ (yieldRecheck s).adu = s.adu ∧ (yieldRecheck s).pool = s.pool ∧
    (yieldRecheck s).mpt = s.mpt ∧ (yieldRecheck s).vom = s.vom ∧ (yieldRecheck s).scratch = s.scratch ∧
    (yieldRecheck s).ejectInhibit = s.ejectInhibit ∧ (yieldRecheck s).cursors = s.cursors ∧
    (yieldRecheck s).srt = s.srt ∧ (yieldRecheck s).ntu = s.ntu ∧ (yieldRecheck s).choice = s.choice ∧
    (yieldRecheck s).ape.state = s.ape.state ∧ (yieldRecheck s).ape.unverified = s.ape.unverified ∧
    (yieldRecheck s).ape.inWrite = s.ape.inWrite := by
  unfold yieldRecheck
  try dsimp only
  (repeat' split) <;> simp

@[simp] theorem issue_keeps (op : DriveOp) (i : Issuer) (s : State) :
    (issue op i s).pending = s.pending ∧ (issue op i s).ctl = s.ctl ∧ (issue op i s).params = s.params ∧
    (issue op i s).ports = s.ports ∧ (issue op i s).adu = s.adu ∧ (issue op i s).pool = s.pool ∧
    (issue op i s).ape = s.ape ∧ (issue op i s).vom = s.vom ∧ (issue op i s).scratch = s.scratch ∧
    (issue op i s).ejectInhibit = s.ejectInhibit ∧ (issue op i s).cursors = s.cursors ∧ (issue op i s).srt = s.srt ∧
    (issue op i s).ntu = s.ntu ∧ (issue op i s).signals = s.signals ∧ (issue op i s).choice = s.choice ∧
    (issue op i s).mpt.head = s.mpt.head ∧ (issue op i s).mpt.holder = s.mpt.holder ∧
    (issue op i s).mpt.writes = s.mpt.writes ∧ (issue op i s).mpt.burstLimit = s.mpt.burstLimit ∧
    (issue op i s).mpt.lastServed = s.mpt.lastServed := by
  unfold issue
  try dsimp only
  (repeat' split) <;> simp

@[simp] theorem issueWrite_keeps (n : Nat) (b : List Byte) (s : State) :
    (issueWrite n b s).pending = s.pending ∧ (issueWrite n b s).ctl = s.ctl ∧ (issueWrite n b s).params = s.params ∧
    (issueWrite n b s).ports = s.ports ∧ (issueWrite n b s).adu = s.adu ∧ (issueWrite n b s).pool = s.pool ∧
    (issueWrite n b s).vom = s.vom ∧ (issueWrite n b s).scratch = s.scratch ∧
    (issueWrite n b s).ejectInhibit = s.ejectInhibit ∧ (issueWrite n b s).cursors = s.cursors ∧
    (issueWrite n b s).srt = s.srt ∧ (issueWrite n b s).ntu = s.ntu ∧ (issueWrite n b s).choice = s.choice ∧
    (issueWrite n b s).mpt.head = s.mpt.head ∧ (issueWrite n b s).mpt.holder = s.mpt.holder ∧
    (issueWrite n b s).mpt.burstLimit = s.mpt.burstLimit ∧ (issueWrite n b s).mpt.lastServed = s.mpt.lastServed ∧
    (issueWrite n b s).ape.state = s.ape.state ∧ (issueWrite n b s).ape.unverified = s.ape.unverified ∧
    (issueWrite n b s).ape.inWrite = s.ape.inWrite := by
  unfold issueWrite
  try dsimp only
  simp

@[simp] theorem endOperation_keeps (h : Option Nat) (s : State) :
    (endOperation h s).pending = s.pending ∧ (endOperation h s).ctl = s.ctl ∧ (endOperation h s).params = s.params ∧
    (endOperation h s).ports = s.ports ∧ (endOperation h s).adu = s.adu ∧ (endOperation h s).pool = s.pool ∧
    (endOperation h s).ape = s.ape ∧ (endOperation h s).vom = s.vom ∧ (endOperation h s).scratch = s.scratch ∧
    (endOperation h s).ejectInhibit = s.ejectInhibit ∧ (endOperation h s).cursors = s.cursors ∧
    (endOperation h s).srt = s.srt ∧ (endOperation h s).ntu = s.ntu ∧ (endOperation h s).signals = s.signals ∧
    (endOperation h s).choice = s.choice ∧ (endOperation h s).mpt.nextOp = s.mpt.nextOp ∧
    (endOperation h s).mpt.holder = s.mpt.holder ∧ (endOperation h s).mpt.writes = s.mpt.writes ∧
    (endOperation h s).mpt.burstLimit = s.mpt.burstLimit ∧ (endOperation h s).mpt.lastServed = s.mpt.lastServed := by
  unfold endOperation
  try dsimp only
  simp

@[simp] theorem grant_keeps (c : Client) (s : State) :
    (grant c s).pending = s.pending ∧ (grant c s).ctl = s.ctl ∧ (grant c s).params = s.params ∧
    (grant c s).ports = s.ports ∧ (grant c s).adu = s.adu ∧ (grant c s).pool = s.pool ∧ (grant c s).ape = s.ape ∧
    (grant c s).vom = s.vom ∧ (grant c s).scratch = s.scratch ∧ (grant c s).ejectInhibit = s.ejectInhibit ∧
    (grant c s).cursors = s.cursors ∧ (grant c s).srt = s.srt ∧ (grant c s).ntu = s.ntu ∧ (grant c s).choice = s.choice ∧
    (grant c s).mpt.link = s.mpt.link ∧ (grant c s).mpt.timer = s.mpt.timer ∧ (grant c s).mpt.retry = s.mpt.retry ∧
    (grant c s).mpt.nextOp = s.mpt.nextOp ∧ (grant c s).mpt.head = s.mpt.head := by
  unfold grant
  try dsimp only
  (repeat' split) <;> simp

@[simp] theorem handOver_keeps (s : State) :
    (handOver s).pending = s.pending ∧ (handOver s).ctl = s.ctl ∧ (handOver s).params = s.params ∧
    (handOver s).ports = s.ports ∧ (handOver s).adu = s.adu ∧ (handOver s).pool = s.pool ∧ (handOver s).ape = s.ape ∧
    (handOver s).vom = s.vom ∧ (handOver s).scratch = s.scratch ∧ (handOver s).ejectInhibit = s.ejectInhibit ∧
    (handOver s).cursors = s.cursors ∧ (handOver s).srt = s.srt ∧ (handOver s).ntu = s.ntu ∧
    (handOver s).choice = s.choice ∧ (handOver s).mpt.link = s.mpt.link ∧ (handOver s).mpt.timer = s.mpt.timer ∧
    (handOver s).mpt.retry = s.mpt.retry ∧ (handOver s).mpt.nextOp = s.mpt.nextOp ∧
    (handOver s).mpt.head = s.mpt.head := by
  unfold handOver
  try dsimp only
  (repeat' split) <;> simp

@[simp] theorem request_keeps (c : Client) (s : State) :
    (request c s).pending = s.pending ∧ (request c s).ctl = s.ctl ∧ (request c s).params = s.params ∧
    (request c s).ports = s.ports ∧ (request c s).adu = s.adu ∧ (request c s).pool = s.pool ∧ (request c s).vom = s.vom ∧
    (request c s).scratch = s.scratch ∧ (request c s).ejectInhibit = s.ejectInhibit ∧ (request c s).cursors = s.cursors ∧
    (request c s).srt = s.srt ∧ (request c s).ntu = s.ntu ∧ (request c s).choice = s.choice ∧
    (request c s).mpt.link = s.mpt.link ∧ (request c s).mpt.timer = s.mpt.timer ∧ (request c s).mpt.retry = s.mpt.retry ∧
    (request c s).mpt.nextOp = s.mpt.nextOp ∧ (request c s).mpt.head = s.mpt.head ∧
    (request c s).ape.state = s.ape.state ∧ (request c s).ape.unverified = s.ape.unverified ∧
    (request c s).ape.inWrite = s.ape.inWrite := by
  unfold request
  try dsimp only
  (repeat' split) <;> simp

@[simp] theorem withdrawRequest_keeps (c : Client) (s : State) :
    (withdrawRequest c s).pending = s.pending ∧ (withdrawRequest c s).ctl = s.ctl ∧
    (withdrawRequest c s).params = s.params ∧ (withdrawRequest c s).ports = s.ports ∧ (withdrawRequest c s).adu = s.adu ∧
    (withdrawRequest c s).pool = s.pool ∧ (withdrawRequest c s).vom = s.vom ∧ (withdrawRequest c s).scratch = s.scratch ∧
    (withdrawRequest c s).ejectInhibit = s.ejectInhibit ∧ (withdrawRequest c s).cursors = s.cursors ∧
    (withdrawRequest c s).srt = s.srt ∧ (withdrawRequest c s).ntu = s.ntu ∧ (withdrawRequest c s).choice = s.choice ∧
    (withdrawRequest c s).mpt.link = s.mpt.link ∧ (withdrawRequest c s).mpt.timer = s.mpt.timer ∧
    (withdrawRequest c s).mpt.retry = s.mpt.retry ∧ (withdrawRequest c s).mpt.nextOp = s.mpt.nextOp ∧
    (withdrawRequest c s).mpt.head = s.mpt.head ∧ (withdrawRequest c s).mpt.holder = s.mpt.holder ∧
    (withdrawRequest c s).mpt.writes = s.mpt.writes ∧ (withdrawRequest c s).mpt.burstLimit = s.mpt.burstLimit ∧
    (withdrawRequest c s).mpt.lastServed = s.mpt.lastServed ∧ (withdrawRequest c s).ape.state = s.ape.state ∧
    (withdrawRequest c s).ape.unverified = s.ape.unverified ∧ (withdrawRequest c s).ape.inWrite = s.ape.inWrite := by
  unfold withdrawRequest
  try dsimp only
  simp

@[simp] theorem release_keeps (c : Client) (s : State) :
    (release c s).pending = s.pending ∧ (release c s).ctl = s.ctl ∧ (release c s).params = s.params ∧
    (release c s).ports = s.ports ∧ (release c s).adu = s.adu ∧ (release c s).pool = s.pool ∧ (release c s).vom = s.vom ∧
    (release c s).scratch = s.scratch ∧ (release c s).ejectInhibit = s.ejectInhibit ∧ (release c s).cursors = s.cursors ∧
    (release c s).srt = s.srt ∧ (release c s).ntu = s.ntu ∧ (release c s).choice = s.choice ∧
    (release c s).mpt.link = s.mpt.link ∧ (release c s).mpt.timer = s.mpt.timer ∧ (release c s).mpt.retry = s.mpt.retry ∧
    (release c s).mpt.nextOp = s.mpt.nextOp ∧ (release c s).mpt.head = s.mpt.head ∧
    (release c s).ape.state = s.ape.state ∧ (release c s).ape.unverified = s.ape.unverified ∧
    (release c s).ape.inWrite = s.ape.inWrite := by
  unfold release
  try dsimp only
  (repeat' split) <;> simp

@[simp] theorem letGo_keeps (c : Client) (s : State) :
    (letGo c s).pending = s.pending ∧ (letGo c s).ctl = s.ctl ∧ (letGo c s).params = s.params ∧
    (letGo c s).ports = s.ports ∧ (letGo c s).adu = s.adu ∧ (letGo c s).pool = s.pool ∧ (letGo c s).vom = s.vom ∧
    (letGo c s).scratch = s.scratch ∧ (letGo c s).ejectInhibit = s.ejectInhibit ∧ (letGo c s).cursors = s.cursors ∧
    (letGo c s).srt = s.srt ∧ (letGo c s).ntu = s.ntu ∧ (letGo c s).choice = s.choice ∧
    (letGo c s).mpt.link = s.mpt.link ∧ (letGo c s).mpt.timer = s.mpt.timer ∧ (letGo c s).mpt.retry = s.mpt.retry ∧
    (letGo c s).mpt.nextOp = s.mpt.nextOp ∧ (letGo c s).mpt.head = s.mpt.head ∧ (letGo c s).ape.state = s.ape.state ∧
    (letGo c s).ape.unverified = s.ape.unverified ∧ (letGo c s).ape.inWrite = s.ape.inWrite := by
  unfold letGo
  try dsimp only
  simp

@[simp] theorem placeNew_keeps (r : Record) (s : State) :
    (placeNew r s).pending = s.pending ∧ (placeNew r s).ctl = s.ctl ∧ (placeNew r s).params = s.params ∧
    (placeNew r s).mpt = s.mpt ∧ (placeNew r s).ape = s.ape ∧ (placeNew r s).scratch = s.scratch ∧
    (placeNew r s).ejectInhibit = s.ejectInhibit ∧ (placeNew r s).cursors = s.cursors ∧ (placeNew r s).srt = s.srt ∧
    (placeNew r s).choice = s.choice ∧ (placeNew r s).adu.queue = s.adu.queue ∧ (placeNew r s).adu.clock = s.adu.clock ∧
    (placeNew r s).vom.state = s.vom.state ∧ (placeNew r s).vom.cause = s.vom.cause ∧
    (placeNew r s).vom.serial = s.vom.serial ∧ (placeNew r s).vom.capacity = s.vom.capacity ∧
    (placeNew r s).vom.appendPoint = s.vom.appendPoint ∧ (placeNew r s).vom.session = s.vom.session ∧
    (placeNew r s).vom.frontier = s.vom.frontier ∧ (placeNew r s).vom.frontierSlot = s.vom.frontierSlot ∧
    (placeNew r s).vom.highestRsn = s.vom.highestRsn ∧ (placeNew r s).vom.lost = s.vom.lost ∧
    (placeNew r s).vom.unload = s.vom.unload := by
  unfold placeNew
  try dsimp only
  (repeat' split) <;> simp

@[simp] theorem makeWaiter_keeps (p : Port) (t : Tag) (rsn bsn : Nat) (s : State) :
    (makeWaiter p t rsn bsn s).pending = s.pending ∧ (makeWaiter p t rsn bsn s).ctl = s.ctl ∧
    (makeWaiter p t rsn bsn s).params = s.params ∧ (makeWaiter p t rsn bsn s).adu = s.adu ∧
    (makeWaiter p t rsn bsn s).mpt = s.mpt ∧ (makeWaiter p t rsn bsn s).vom = s.vom ∧
    (makeWaiter p t rsn bsn s).scratch = s.scratch ∧ (makeWaiter p t rsn bsn s).ejectInhibit = s.ejectInhibit ∧
    (makeWaiter p t rsn bsn s).cursors = s.cursors ∧ (makeWaiter p t rsn bsn s).srt = s.srt ∧
    (makeWaiter p t rsn bsn s).ntu = s.ntu ∧ (makeWaiter p t rsn bsn s).choice = s.choice ∧
    (makeWaiter p t rsn bsn s).pool.free = s.pool.free ∧ (makeWaiter p t rsn bsn s).pool.opened = s.pool.opened ∧
    (makeWaiter p t rsn bsn s).pool.nextBsn = s.pool.nextBsn ∧ (makeWaiter p t rsn bsn s).ape.state = s.ape.state ∧
    (makeWaiter p t rsn bsn s).ape.yield = s.ape.yield := by
  unfold makeWaiter
  try dsimp only
  simp

@[simp] theorem countRecord_keeps (x : StreamId) (rsn : Nat) (s : State) :
    (countRecord x rsn s).pending = s.pending ∧ (countRecord x rsn s).ctl = s.ctl ∧
    (countRecord x rsn s).params = s.params ∧ (countRecord x rsn s).ports = s.ports ∧ (countRecord x rsn s).adu = s.adu ∧
    (countRecord x rsn s).pool = s.pool ∧ (countRecord x rsn s).mpt = s.mpt ∧ (countRecord x rsn s).ape = s.ape ∧
    (countRecord x rsn s).vom = s.vom ∧ (countRecord x rsn s).scratch = s.scratch ∧
    (countRecord x rsn s).ejectInhibit = s.ejectInhibit ∧ (countRecord x rsn s).cursors = s.cursors ∧
    (countRecord x rsn s).ntu = s.ntu ∧ (countRecord x rsn s).signals = s.signals ∧
    (countRecord x rsn s).choice = s.choice := by
  unfold countRecord
  try dsimp only
  simp

@[simp] theorem admitSync_keeps (p : Port) (t : Tag) (s : State) :
    (admitSync p t s).pending = s.pending ∧ (admitSync p t s).ctl = s.ctl ∧ (admitSync p t s).params = s.params ∧
    (admitSync p t s).adu = s.adu ∧ (admitSync p t s).mpt = s.mpt ∧ (admitSync p t s).scratch = s.scratch ∧
    (admitSync p t s).ejectInhibit = s.ejectInhibit ∧ (admitSync p t s).cursors = s.cursors ∧
    (admitSync p t s).srt = s.srt ∧ (admitSync p t s).choice = s.choice ∧ (admitSync p t s).pool.free = s.pool.free ∧
    (admitSync p t s).ape.state = s.ape.state ∧ (admitSync p t s).ape.yield = s.ape.yield ∧
    (admitSync p t s).vom.state = s.vom.state ∧ (admitSync p t s).vom.cause = s.vom.cause ∧
    (admitSync p t s).vom.serial = s.vom.serial ∧ (admitSync p t s).vom.capacity = s.vom.capacity ∧
    (admitSync p t s).vom.appendPoint = s.vom.appendPoint ∧ (admitSync p t s).vom.session = s.vom.session ∧
    (admitSync p t s).vom.frontier = s.vom.frontier ∧ (admitSync p t s).vom.frontierSlot = s.vom.frontierSlot ∧
    (admitSync p t s).vom.highestRsn = s.vom.highestRsn ∧ (admitSync p t s).vom.lost = s.vom.lost ∧
    (admitSync p t s).vom.unload = s.vom.unload := by
  unfold admitSync
  try dsimp only
  (repeat' split) <;> simp

@[simp] theorem afterRecord_keeps (p : Port) (t : Tag) (w : Writing) (rsn : Nat) (s : State) :
    (afterRecord p t w rsn s).pending = s.pending ∧ (afterRecord p t w rsn s).ctl = s.ctl ∧
    (afterRecord p t w rsn s).params = s.params ∧ (afterRecord p t w rsn s).mpt = s.mpt ∧
    (afterRecord p t w rsn s).scratch = s.scratch ∧ (afterRecord p t w rsn s).ejectInhibit = s.ejectInhibit ∧
    (afterRecord p t w rsn s).cursors = s.cursors ∧ (afterRecord p t w rsn s).choice = s.choice ∧
    (afterRecord p t w rsn s).adu.queue = s.adu.queue ∧ (afterRecord p t w rsn s).adu.nextRsn = s.adu.nextRsn ∧
    (afterRecord p t w rsn s).pool.free = s.pool.free ∧ (afterRecord p t w rsn s).ape.state = s.ape.state ∧
    (afterRecord p t w rsn s).ape.yield = s.ape.yield ∧ (afterRecord p t w rsn s).vom.state = s.vom.state ∧
    (afterRecord p t w rsn s).vom.cause = s.vom.cause ∧ (afterRecord p t w rsn s).vom.serial = s.vom.serial ∧
    (afterRecord p t w rsn s).vom.capacity = s.vom.capacity ∧
    (afterRecord p t w rsn s).vom.appendPoint = s.vom.appendPoint ∧
    (afterRecord p t w rsn s).vom.session = s.vom.session ∧ (afterRecord p t w rsn s).vom.frontier = s.vom.frontier ∧
    (afterRecord p t w rsn s).vom.frontierSlot = s.vom.frontierSlot ∧
    (afterRecord p t w rsn s).vom.highestRsn = s.vom.highestRsn ∧ (afterRecord p t w rsn s).vom.lost = s.vom.lost ∧
    (afterRecord p t w rsn s).vom.unload = s.vom.unload := by
  unfold afterRecord
  try dsimp only
  (repeat' split) <;> simp

@[simp] theorem admission_keeps (p : Port) (t : Tag) (w : Writing) (s : State) :
    (admission p t w s).pending = s.pending ∧ (admission p t w s).ctl = s.ctl ∧ (admission p t w s).params = s.params ∧
    (admission p t w s).mpt = s.mpt ∧ (admission p t w s).scratch = s.scratch ∧
    (admission p t w s).ejectInhibit = s.ejectInhibit ∧ (admission p t w s).cursors = s.cursors ∧
    (admission p t w s).choice = s.choice ∧ (admission p t w s).adu.queue = s.adu.queue ∧
    (admission p t w s).ape.state = s.ape.state ∧ (admission p t w s).ape.yield = s.ape.yield ∧
    (admission p t w s).vom.state = s.vom.state ∧ (admission p t w s).vom.cause = s.vom.cause ∧
    (admission p t w s).vom.serial = s.vom.serial ∧ (admission p t w s).vom.capacity = s.vom.capacity ∧
    (admission p t w s).vom.appendPoint = s.vom.appendPoint ∧ (admission p t w s).vom.session = s.vom.session ∧
    (admission p t w s).vom.frontier = s.vom.frontier ∧ (admission p t w s).vom.frontierSlot = s.vom.frontierSlot ∧
    (admission p t w s).vom.highestRsn = s.vom.highestRsn ∧ (admission p t w s).vom.lost = s.vom.lost ∧
    (admission p t w s).vom.unload = s.vom.unload := by
  unfold admission
  try dsimp only
  (repeat' split) <;> simp

@[simp] theorem evalNext_keeps (s : State) :
    (evalNext s).pending = s.pending ∧ (evalNext s).ctl = s.ctl ∧ (evalNext s).params = s.params ∧
    (evalNext s).ports = s.ports ∧ (evalNext s).adu = s.adu ∧ (evalNext s).pool = s.pool ∧ (evalNext s).mpt = s.mpt ∧
    (evalNext s).ape = s.ape ∧ (evalNext s).vom = s.vom ∧ (evalNext s).scratch = s.scratch ∧
    (evalNext s).ejectInhibit = s.ejectInhibit ∧ (evalNext s).cursors = s.cursors ∧ (evalNext s).srt = s.srt ∧
    (evalNext s).ntu = s.ntu ∧ (evalNext s).choice = s.choice := by
  unfold evalNext
  try dsimp only
  (repeat' split) <;> simp

@[simp] theorem evalHead_keeps (s : State) :
    (evalHead s).pending = s.pending ∧ (evalHead s).ctl = s.ctl ∧ (evalHead s).params = s.params ∧
    (evalHead s).mpt = s.mpt ∧ (evalHead s).scratch = s.scratch ∧ (evalHead s).ejectInhibit = s.ejectInhibit ∧
    (evalHead s).cursors = s.cursors ∧ (evalHead s).choice = s.choice ∧ (evalHead s).ape.state = s.ape.state ∧
    (evalHead s).ape.yield = s.ape.yield ∧ (evalHead s).vom.state = s.vom.state ∧ (evalHead s).vom.cause = s.vom.cause ∧
    (evalHead s).vom.serial = s.vom.serial ∧ (evalHead s).vom.capacity = s.vom.capacity ∧
    (evalHead s).vom.appendPoint = s.vom.appendPoint ∧ (evalHead s).vom.session = s.vom.session ∧
    (evalHead s).vom.frontier = s.vom.frontier ∧ (evalHead s).vom.frontierSlot = s.vom.frontierSlot ∧
    (evalHead s).vom.highestRsn = s.vom.highestRsn ∧ (evalHead s).vom.lost = s.vom.lost ∧
    (evalHead s).vom.unload = s.vom.unload := by
  unfold evalHead
  try dsimp only
  (repeat' split) <;> simp

@[simp] theorem wakeHead_keeps (s : State) :
    (wakeHead s).pending = s.pending ∧ (wakeHead s).ctl = s.ctl ∧ (wakeHead s).params = s.params ∧
    (wakeHead s).mpt = s.mpt ∧ (wakeHead s).scratch = s.scratch ∧ (wakeHead s).ejectInhibit = s.ejectInhibit ∧
    (wakeHead s).cursors = s.cursors ∧ (wakeHead s).choice = s.choice ∧ (wakeHead s).ape.state = s.ape.state ∧
    (wakeHead s).ape.yield = s.ape.yield ∧ (wakeHead s).vom.state = s.vom.state ∧ (wakeHead s).vom.cause = s.vom.cause ∧
    (wakeHead s).vom.serial = s.vom.serial ∧ (wakeHead s).vom.capacity = s.vom.capacity ∧
    (wakeHead s).vom.appendPoint = s.vom.appendPoint ∧ (wakeHead s).vom.session = s.vom.session ∧
    (wakeHead s).vom.frontier = s.vom.frontier ∧ (wakeHead s).vom.frontierSlot = s.vom.frontierSlot ∧
    (wakeHead s).vom.highestRsn = s.vom.highestRsn ∧ (wakeHead s).vom.lost = s.vom.lost ∧
    (wakeHead s).vom.unload = s.vom.unload := by
  unfold wakeHead
  try dsimp only
  (repeat' split) <;> simp

@[simp] theorem joinQueue_keeps (p : Port) (t : Tag) (w : Writing) (s : State) :
    (joinQueue p t w s).pending = s.pending ∧ (joinQueue p t w s).ctl = s.ctl ∧ (joinQueue p t w s).params = s.params ∧
    (joinQueue p t w s).pool = s.pool ∧ (joinQueue p t w s).mpt = s.mpt ∧ (joinQueue p t w s).ape = s.ape ∧
    (joinQueue p t w s).vom = s.vom ∧ (joinQueue p t w s).scratch = s.scratch ∧
    (joinQueue p t w s).ejectInhibit = s.ejectInhibit ∧ (joinQueue p t w s).cursors = s.cursors ∧
    (joinQueue p t w s).srt = s.srt ∧ (joinQueue p t w s).ntu = s.ntu ∧ (joinQueue p t w s).choice = s.choice ∧
    (joinQueue p t w s).adu.nextRsn = s.adu.nextRsn ∧ (joinQueue p t w s).adu.clock = s.adu.clock := by
  unfold joinQueue
  try dsimp only
  (repeat' split) <;> simp

@[simp] theorem removeEntriesHead_keeps (gone : Entry → Bool) (s : State) :
    (removeEntries gone (raise .head) s).pending = s.pending ∧ (removeEntries gone (raise .head) s).ctl = s.ctl ∧
    (removeEntries gone (raise .head) s).params = s.params ∧ (removeEntries gone (raise .head) s).ports = s.ports ∧
    (removeEntries gone (raise .head) s).pool = s.pool ∧ (removeEntries gone (raise .head) s).mpt = s.mpt ∧
    (removeEntries gone (raise .head) s).ape = s.ape ∧ (removeEntries gone (raise .head) s).vom = s.vom ∧
    (removeEntries gone (raise .head) s).scratch = s.scratch ∧
    (removeEntries gone (raise .head) s).ejectInhibit = s.ejectInhibit ∧
    (removeEntries gone (raise .head) s).cursors = s.cursors ∧ (removeEntries gone (raise .head) s).srt = s.srt ∧
    (removeEntries gone (raise .head) s).ntu = s.ntu ∧ (removeEntries gone (raise .head) s).choice = s.choice ∧
    (removeEntries gone (raise .head) s).adu.nextRsn = s.adu.nextRsn ∧
    (removeEntries gone (raise .head) s).adu.clock = s.adu.clock := by
  simp only [removeEntries]
  (repeat' split) <;> simp

@[simp] theorem refuseEntry_keeps (p : Port) (t : Tag) (st : Status) (s : State) :
    (refuseEntry p t st s).pending = s.pending ∧ (refuseEntry p t st s).ctl = s.ctl ∧
    (refuseEntry p t st s).params = s.params ∧ (refuseEntry p t st s).pool = s.pool ∧
    (refuseEntry p t st s).mpt = s.mpt ∧ (refuseEntry p t st s).ape = s.ape ∧ (refuseEntry p t st s).vom = s.vom ∧
    (refuseEntry p t st s).scratch = s.scratch ∧ (refuseEntry p t st s).ejectInhibit = s.ejectInhibit ∧
    (refuseEntry p t st s).cursors = s.cursors ∧ (refuseEntry p t st s).srt = s.srt ∧
    (refuseEntry p t st s).choice = s.choice ∧ (refuseEntry p t st s).adu.nextRsn = s.adu.nextRsn ∧
    (refuseEntry p t st s).adu.clock = s.adu.clock := by
  unfold refuseEntry
  try dsimp only
  simp

@[simp] theorem deadlineExpired_keeps (p : Port) (t : Tag) (s : State) :
    (deadlineExpired p t s).pending = s.pending ∧ (deadlineExpired p t s).ctl = s.ctl ∧
    (deadlineExpired p t s).params = s.params ∧ (deadlineExpired p t s).pool = s.pool ∧
    (deadlineExpired p t s).mpt = s.mpt ∧ (deadlineExpired p t s).ape = s.ape ∧ (deadlineExpired p t s).vom = s.vom ∧
    (deadlineExpired p t s).scratch = s.scratch ∧ (deadlineExpired p t s).ejectInhibit = s.ejectInhibit ∧
    (deadlineExpired p t s).cursors = s.cursors ∧ (deadlineExpired p t s).srt = s.srt ∧
    (deadlineExpired p t s).choice = s.choice ∧ (deadlineExpired p t s).adu.nextRsn = s.adu.nextRsn ∧
    (deadlineExpired p t s).adu.clock = s.adu.clock := by
  unfold deadlineExpired
  try dsimp only
  (repeat' split) <;> simp

@[simp] theorem abortWaiter_keeps (p : Port) (t : Tag) (s : State) :
    (abortWaiter p t s).pending = s.pending ∧ (abortWaiter p t s).ctl = s.ctl ∧ (abortWaiter p t s).params = s.params ∧
    (abortWaiter p t s).adu = s.adu ∧ (abortWaiter p t s).mpt = s.mpt ∧ (abortWaiter p t s).vom = s.vom ∧
    (abortWaiter p t s).scratch = s.scratch ∧ (abortWaiter p t s).ejectInhibit = s.ejectInhibit ∧
    (abortWaiter p t s).cursors = s.cursors ∧ (abortWaiter p t s).srt = s.srt ∧ (abortWaiter p t s).signals = s.signals ∧
    (abortWaiter p t s).choice = s.choice ∧ (abortWaiter p t s).pool.free = s.pool.free ∧
    (abortWaiter p t s).pool.opened = s.pool.opened ∧ (abortWaiter p t s).pool.nextBsn = s.pool.nextBsn ∧
    (abortWaiter p t s).ape.state = s.ape.state ∧ (abortWaiter p t s).ape.yield = s.ape.yield := by
  unfold abortWaiter
  try dsimp only
  simp

@[simp] theorem refuseAll_keeps (st : Status) (l : List Entry) (s : State) :
    (refuseAll st l s).pending = s.pending ∧ (refuseAll st l s).ctl = s.ctl ∧ (refuseAll st l s).params = s.params ∧
    (refuseAll st l s).adu = s.adu ∧ (refuseAll st l s).pool = s.pool ∧ (refuseAll st l s).mpt = s.mpt ∧
    (refuseAll st l s).ape = s.ape ∧ (refuseAll st l s).vom = s.vom ∧ (refuseAll st l s).scratch = s.scratch ∧
    (refuseAll st l s).ejectInhibit = s.ejectInhibit ∧ (refuseAll st l s).cursors = s.cursors ∧
    (refuseAll st l s).srt = s.srt ∧ (refuseAll st l s).signals = s.signals ∧ (refuseAll st l s).choice = s.choice := by
  induction l generalizing s with
  | nil => simp [refuseAll]
  | cons a l ih =>
    unfold refuseAll
    try dsimp only
    simp [ih]

@[simp] theorem refuseQueue_keeps (s : State) :
    (refuseQueue s).pending = s.pending ∧ (refuseQueue s).ctl = s.ctl ∧ (refuseQueue s).params = s.params ∧
    (refuseQueue s).pool = s.pool ∧ (refuseQueue s).mpt = s.mpt ∧ (refuseQueue s).ape = s.ape ∧
    (refuseQueue s).vom = s.vom ∧ (refuseQueue s).scratch = s.scratch ∧ (refuseQueue s).ejectInhibit = s.ejectInhibit ∧
    (refuseQueue s).cursors = s.cursors ∧ (refuseQueue s).srt = s.srt ∧ (refuseQueue s).signals = s.signals ∧
    (refuseQueue s).choice = s.choice ∧ (refuseQueue s).adu.nextRsn = s.adu.nextRsn ∧
    (refuseQueue s).adu.clock = s.adu.clock := by
  unfold refuseQueue
  try dsimp only
  simp

@[simp] theorem purgePortHead_keeps (p : Port) (s : State) :
    (purgePort p (raise .head) s).pending = s.pending ∧ (purgePort p (raise .head) s).ctl = s.ctl ∧
    (purgePort p (raise .head) s).params = s.params ∧ (purgePort p (raise .head) s).ports = s.ports ∧
    (purgePort p (raise .head) s).mpt = s.mpt ∧ (purgePort p (raise .head) s).vom = s.vom ∧
    (purgePort p (raise .head) s).scratch = s.scratch ∧ (purgePort p (raise .head) s).ejectInhibit = s.ejectInhibit ∧
    (purgePort p (raise .head) s).cursors = s.cursors ∧ (purgePort p (raise .head) s).srt = s.srt ∧
    (purgePort p (raise .head) s).ntu = s.ntu ∧ (purgePort p (raise .head) s).choice = s.choice ∧
    (purgePort p (raise .head) s).adu.nextRsn = s.adu.nextRsn ∧ (purgePort p (raise .head) s).adu.clock = s.adu.clock ∧
    (purgePort p (raise .head) s).pool.free = s.pool.free ∧ (purgePort p (raise .head) s).pool.opened = s.pool.opened ∧
    (purgePort p (raise .head) s).pool.nextBsn = s.pool.nextBsn ∧ (purgePort p (raise .head) s).ape.state = s.ape.state ∧
    (purgePort p (raise .head) s).ape.yield = s.ape.yield := by
  simp only [purgePort]
  simp

@[simp] theorem tickClock_keeps (s : State) :
    (tickClock s).pending = s.pending ∧ (tickClock s).ctl = s.ctl ∧ (tickClock s).params = s.params ∧
    (tickClock s).ports = s.ports ∧ (tickClock s).pool = s.pool ∧ (tickClock s).mpt = s.mpt ∧ (tickClock s).ape = s.ape ∧
    (tickClock s).vom = s.vom ∧ (tickClock s).scratch = s.scratch ∧ (tickClock s).ejectInhibit = s.ejectInhibit ∧
    (tickClock s).cursors = s.cursors ∧ (tickClock s).srt = s.srt ∧ (tickClock s).ntu = s.ntu ∧
    (tickClock s).signals = s.signals ∧ (tickClock s).choice = s.choice ∧ (tickClock s).adu.queue = s.adu.queue ∧
    (tickClock s).adu.nextRsn = s.adu.nextRsn := by
  unfold tickClock
  try dsimp only
  simp

@[simp] theorem lostWaiters_keeps (l : List (Port × Tag)) (s : State) :
    (lostWaiters l s).pending = s.pending ∧ (lostWaiters l s).ctl = s.ctl ∧ (lostWaiters l s).params = s.params ∧
    (lostWaiters l s).adu = s.adu ∧ (lostWaiters l s).pool = s.pool ∧ (lostWaiters l s).mpt = s.mpt ∧
    (lostWaiters l s).ape = s.ape ∧ (lostWaiters l s).vom = s.vom ∧ (lostWaiters l s).scratch = s.scratch ∧
    (lostWaiters l s).ejectInhibit = s.ejectInhibit ∧ (lostWaiters l s).cursors = s.cursors ∧
    (lostWaiters l s).srt = s.srt ∧ (lostWaiters l s).signals = s.signals ∧ (lostWaiters l s).choice = s.choice := by
  induction l generalizing s with
  | nil => simp [lostWaiters]
  | cons a l ih =>
    unfold lostWaiters
    try dsimp only
    simp [ih]

@[simp] theorem teardownEngine_keeps (s : State) :
    (teardownEngine s).pending = s.pending ∧ (teardownEngine s).ctl = s.ctl ∧ (teardownEngine s).params = s.params ∧
    (teardownEngine s).ports = s.ports ∧ (teardownEngine s).adu = s.adu ∧ (teardownEngine s).pool = s.pool ∧
    (teardownEngine s).vom = s.vom ∧ (teardownEngine s).scratch = s.scratch ∧
    (teardownEngine s).ejectInhibit = s.ejectInhibit ∧ (teardownEngine s).cursors = s.cursors ∧
    (teardownEngine s).srt = s.srt ∧ (teardownEngine s).ntu = s.ntu ∧ (teardownEngine s).choice = s.choice ∧
    (teardownEngine s).mpt.link = s.mpt.link ∧ (teardownEngine s).mpt.timer = s.mpt.timer ∧
    (teardownEngine s).mpt.retry = s.mpt.retry ∧ (teardownEngine s).mpt.nextOp = s.mpt.nextOp ∧
    (teardownEngine s).mpt.head = s.mpt.head := by
  unfold teardownEngine
  try dsimp only
  simp

@[simp] theorem dropStaging_keeps (s : State) :
    (dropStaging s).pending = s.pending ∧ (dropStaging s).ctl = s.ctl ∧ (dropStaging s).params = s.params ∧
    (dropStaging s).adu = s.adu ∧ (dropStaging s).scratch = s.scratch ∧ (dropStaging s).ejectInhibit = s.ejectInhibit ∧
    (dropStaging s).cursors = s.cursors ∧ (dropStaging s).srt = s.srt ∧ (dropStaging s).choice = s.choice ∧
    (dropStaging s).pool.nextBsn = s.pool.nextBsn ∧ (dropStaging s).mpt.link = s.mpt.link ∧
    (dropStaging s).mpt.timer = s.mpt.timer ∧ (dropStaging s).mpt.retry = s.mpt.retry ∧
    (dropStaging s).mpt.nextOp = s.mpt.nextOp ∧ (dropStaging s).mpt.head = s.mpt.head ∧
    (dropStaging s).vom.state = s.vom.state ∧ (dropStaging s).vom.cause = s.vom.cause ∧
    (dropStaging s).vom.serial = s.vom.serial ∧ (dropStaging s).vom.capacity = s.vom.capacity ∧
    (dropStaging s).vom.appendPoint = s.vom.appendPoint ∧ (dropStaging s).vom.remaining = s.vom.remaining ∧
    (dropStaging s).vom.level = s.vom.level ∧ (dropStaging s).vom.session = s.vom.session ∧
    (dropStaging s).vom.frontier = s.vom.frontier ∧ (dropStaging s).vom.frontierSlot = s.vom.frontierSlot ∧
    (dropStaging s).vom.highestRsn = s.vom.highestRsn ∧ (dropStaging s).vom.unload = s.vom.unload := by
  unfold dropStaging
  try dsimp only
  simp

@[simp] theorem beginEject_keeps (s : State) :
    (beginEject s).pending = s.pending ∧ (beginEject s).ctl = s.ctl ∧ (beginEject s).params = s.params ∧
    (beginEject s).ports = s.ports ∧ (beginEject s).adu = s.adu ∧ (beginEject s).pool = s.pool ∧
    (beginEject s).scratch = s.scratch ∧ (beginEject s).ejectInhibit = s.ejectInhibit ∧
    (beginEject s).cursors = s.cursors ∧ (beginEject s).srt = s.srt ∧ (beginEject s).ntu = s.ntu ∧
    (beginEject s).choice = s.choice ∧ (beginEject s).mpt.link = s.mpt.link ∧ (beginEject s).mpt.timer = s.mpt.timer ∧
    (beginEject s).mpt.retry = s.mpt.retry ∧ (beginEject s).mpt.nextOp = s.mpt.nextOp ∧
    (beginEject s).mpt.head = s.mpt.head ∧ (beginEject s).ape.state = s.ape.state ∧
    (beginEject s).ape.unverified = s.ape.unverified ∧ (beginEject s).ape.inWrite = s.ape.inWrite ∧
    (beginEject s).vom.cause = s.vom.cause ∧ (beginEject s).vom.serial = s.vom.serial ∧
    (beginEject s).vom.capacity = s.vom.capacity ∧ (beginEject s).vom.appendPoint = s.vom.appendPoint ∧
    (beginEject s).vom.remaining = s.vom.remaining ∧ (beginEject s).vom.level = s.vom.level ∧
    (beginEject s).vom.session = s.vom.session ∧ (beginEject s).vom.frontier = s.vom.frontier ∧
    (beginEject s).vom.frontierSlot = s.vom.frontierSlot ∧ (beginEject s).vom.highestRsn = s.vom.highestRsn ∧
    (beginEject s).vom.lost = s.vom.lost ∧ (beginEject s).vom.unload = s.vom.unload := by
  unfold beginEject
  try dsimp only
  simp

@[simp] theorem writeFault_keeps (c : FaultCause) (s : State) :
    (writeFault c s).pending = s.pending ∧ (writeFault c s).ctl = s.ctl ∧ (writeFault c s).params = s.params ∧
    (writeFault c s).scratch = s.scratch ∧ (writeFault c s).ejectInhibit = s.ejectInhibit ∧
    (writeFault c s).cursors = s.cursors ∧ (writeFault c s).srt = s.srt ∧ (writeFault c s).choice = s.choice ∧
    (writeFault c s).adu.nextRsn = s.adu.nextRsn ∧ (writeFault c s).adu.clock = s.adu.clock ∧
    (writeFault c s).pool.nextBsn = s.pool.nextBsn ∧ (writeFault c s).mpt.link = s.mpt.link ∧
    (writeFault c s).mpt.timer = s.mpt.timer ∧ (writeFault c s).mpt.retry = s.mpt.retry ∧
    (writeFault c s).mpt.nextOp = s.mpt.nextOp ∧ (writeFault c s).mpt.head = s.mpt.head ∧
    (writeFault c s).vom.serial = s.vom.serial ∧ (writeFault c s).vom.capacity = s.vom.capacity ∧
    (writeFault c s).vom.appendPoint = s.vom.appendPoint ∧ (writeFault c s).vom.remaining = s.vom.remaining ∧
    (writeFault c s).vom.level = s.vom.level ∧ (writeFault c s).vom.session = s.vom.session ∧
    (writeFault c s).vom.frontier = s.vom.frontier ∧ (writeFault c s).vom.frontierSlot = s.vom.frontierSlot ∧
    (writeFault c s).vom.highestRsn = s.vom.highestRsn := by
  unfold writeFault
  try dsimp only
  (repeat' split) <;> simp

@[simp] theorem drainCheck_keeps (s : State) :
    (drainCheck s).pending = s.pending ∧ (drainCheck s).ctl = s.ctl ∧ (drainCheck s).params = s.params ∧
    (drainCheck s).ports = s.ports ∧ (drainCheck s).adu = s.adu ∧ (drainCheck s).pool = s.pool ∧
    (drainCheck s).scratch = s.scratch ∧ (drainCheck s).ejectInhibit = s.ejectInhibit ∧
    (drainCheck s).cursors = s.cursors ∧ (drainCheck s).srt = s.srt ∧ (drainCheck s).ntu = s.ntu ∧
    (drainCheck s).choice = s.choice ∧ (drainCheck s).mpt.link = s.mpt.link ∧ (drainCheck s).mpt.timer = s.mpt.timer ∧
    (drainCheck s).mpt.retry = s.mpt.retry ∧ (drainCheck s).mpt.nextOp = s.mpt.nextOp ∧
    (drainCheck s).mpt.head = s.mpt.head ∧ (drainCheck s).ape.state = s.ape.state ∧
    (drainCheck s).ape.unverified = s.ape.unverified ∧ (drainCheck s).ape.inWrite = s.ape.inWrite ∧
    (drainCheck s).vom.cause = s.vom.cause ∧ (drainCheck s).vom.serial = s.vom.serial ∧
    (drainCheck s).vom.capacity = s.vom.capacity ∧ (drainCheck s).vom.appendPoint = s.vom.appendPoint ∧
    (drainCheck s).vom.remaining = s.vom.remaining ∧ (drainCheck s).vom.level = s.vom.level ∧
    (drainCheck s).vom.session = s.vom.session ∧ (drainCheck s).vom.frontier = s.vom.frontier ∧
    (drainCheck s).vom.frontierSlot = s.vom.frontierSlot ∧ (drainCheck s).vom.highestRsn = s.vom.highestRsn ∧
    (drainCheck s).vom.lost = s.vom.lost ∧ (drainCheck s).vom.unload = s.vom.unload := by
  unfold drainCheck
  try dsimp only
  (repeat' split) <;> simp

@[simp] theorem startEval_keeps (s : State) :
    (startEval s).pending = s.pending ∧ (startEval s).ctl = s.ctl ∧ (startEval s).params = s.params ∧
    (startEval s).ports = s.ports ∧ (startEval s).adu = s.adu ∧ (startEval s).pool = s.pool ∧ (startEval s).vom = s.vom ∧
    (startEval s).scratch = s.scratch ∧ (startEval s).ejectInhibit = s.ejectInhibit ∧ (startEval s).cursors = s.cursors ∧
    (startEval s).srt = s.srt ∧ (startEval s).ntu = s.ntu ∧ (startEval s).choice = s.choice ∧
    (startEval s).mpt.link = s.mpt.link ∧ (startEval s).mpt.timer = s.mpt.timer ∧ (startEval s).mpt.retry = s.mpt.retry ∧
    (startEval s).mpt.nextOp = s.mpt.nextOp ∧ (startEval s).mpt.head = s.mpt.head ∧
    (startEval s).ape.unverified = s.ape.unverified ∧ (startEval s).ape.inWrite = s.ape.inWrite := by
  unfold startEval
  try dsimp only
  (repeat' split) <;> simp

@[simp] theorem seekToP_keeps (s : State) :
    (seekToP s).pending = s.pending ∧ (seekToP s).ctl = s.ctl ∧ (seekToP s).params = s.params ∧
    (seekToP s).ports = s.ports ∧ (seekToP s).adu = s.adu ∧ (seekToP s).pool = s.pool ∧ (seekToP s).vom = s.vom ∧
    (seekToP s).scratch = s.scratch ∧ (seekToP s).ejectInhibit = s.ejectInhibit ∧ (seekToP s).cursors = s.cursors ∧
    (seekToP s).srt = s.srt ∧ (seekToP s).ntu = s.ntu ∧ (seekToP s).signals = s.signals ∧ (seekToP s).choice = s.choice ∧
    (seekToP s).mpt.head = s.mpt.head ∧ (seekToP s).mpt.holder = s.mpt.holder ∧ (seekToP s).mpt.writes = s.mpt.writes ∧
    (seekToP s).mpt.burstLimit = s.mpt.burstLimit ∧ (seekToP s).mpt.lastServed = s.mpt.lastServed ∧
    (seekToP s).ape.unverified = s.ape.unverified ∧ (seekToP s).ape.inWrite = s.ape.inWrite ∧
    (seekToP s).ape.yield = s.ape.yield := by
  unfold seekToP
  try dsimp only
  simp

@[simp] theorem writeHead_keeps (b : Block) (rest : List Block) (s : State) :
    (writeHead b rest s).pending = s.pending ∧ (writeHead b rest s).ctl = s.ctl ∧
    (writeHead b rest s).params = s.params ∧ (writeHead b rest s).adu = s.adu ∧
    (writeHead b rest s).scratch = s.scratch ∧ (writeHead b rest s).ejectInhibit = s.ejectInhibit ∧
    (writeHead b rest s).cursors = s.cursors ∧ (writeHead b rest s).srt = s.srt ∧
    (writeHead b rest s).choice = s.choice ∧ (writeHead b rest s).pool.free = s.pool.free ∧
    (writeHead b rest s).pool.opened = s.pool.opened ∧ (writeHead b rest s).pool.nextBsn = s.pool.nextBsn ∧
    (writeHead b rest s).mpt.head = s.mpt.head ∧ (writeHead b rest s).mpt.holder = s.mpt.holder ∧
    (writeHead b rest s).mpt.burstLimit = s.mpt.burstLimit ∧ (writeHead b rest s).mpt.lastServed = s.mpt.lastServed ∧
    (writeHead b rest s).ape.state = s.ape.state ∧ (writeHead b rest s).ape.unverified = s.ape.unverified ∧
    (writeHead b rest s).vom.state = s.vom.state ∧ (writeHead b rest s).vom.cause = s.vom.cause ∧
    (writeHead b rest s).vom.serial = s.vom.serial ∧ (writeHead b rest s).vom.capacity = s.vom.capacity ∧
    (writeHead b rest s).vom.session = s.vom.session ∧ (writeHead b rest s).vom.frontier = s.vom.frontier ∧
    (writeHead b rest s).vom.frontierSlot = s.vom.frontierSlot ∧ (writeHead b rest s).vom.highestRsn = s.vom.highestRsn ∧
    (writeHead b rest s).vom.lost = s.vom.lost ∧ (writeHead b rest s).vom.unload = s.vom.unload := by
  unfold writeHead
  try dsimp only
  simp

@[simp] theorem writeCheck_keeps (s : State) :
    (writeCheck s).pending = s.pending ∧ (writeCheck s).ctl = s.ctl ∧ (writeCheck s).params = s.params ∧
    (writeCheck s).scratch = s.scratch ∧ (writeCheck s).ejectInhibit = s.ejectInhibit ∧
    (writeCheck s).cursors = s.cursors ∧ (writeCheck s).srt = s.srt ∧ (writeCheck s).choice = s.choice ∧
    (writeCheck s).adu.nextRsn = s.adu.nextRsn ∧ (writeCheck s).adu.clock = s.adu.clock ∧
    (writeCheck s).pool.nextBsn = s.pool.nextBsn ∧ (writeCheck s).mpt.head = s.mpt.head ∧
    (writeCheck s).vom.serial = s.vom.serial ∧ (writeCheck s).vom.capacity = s.vom.capacity ∧
    (writeCheck s).vom.session = s.vom.session ∧ (writeCheck s).vom.frontier = s.vom.frontier ∧
    (writeCheck s).vom.frontierSlot = s.vom.frontierSlot ∧ (writeCheck s).vom.highestRsn = s.vom.highestRsn := by
  unfold writeCheck
  try dsimp only
  (repeat' split) <;> simp

@[simp] theorem burstEnd_keeps (s : State) :
    (burstEnd s).pending = s.pending ∧ (burstEnd s).ctl = s.ctl ∧ (burstEnd s).params = s.params ∧
    (burstEnd s).ports = s.ports ∧ (burstEnd s).adu = s.adu ∧ (burstEnd s).pool = s.pool ∧ (burstEnd s).vom = s.vom ∧
    (burstEnd s).scratch = s.scratch ∧ (burstEnd s).ejectInhibit = s.ejectInhibit ∧ (burstEnd s).cursors = s.cursors ∧
    (burstEnd s).srt = s.srt ∧ (burstEnd s).ntu = s.ntu ∧ (burstEnd s).choice = s.choice ∧
    (burstEnd s).mpt.link = s.mpt.link ∧ (burstEnd s).mpt.timer = s.mpt.timer ∧ (burstEnd s).mpt.retry = s.mpt.retry ∧
    (burstEnd s).mpt.nextOp = s.mpt.nextOp ∧ (burstEnd s).mpt.head = s.mpt.head ∧
    (burstEnd s).ape.unverified = s.ape.unverified ∧ (burstEnd s).ape.inWrite = s.ape.inWrite := by
  unfold burstEnd
  try dsimp only
  (repeat' split) <;> simp

@[simp] theorem yieldGrant_keeps (s : State) :
    (yieldGrant s).pending = s.pending ∧ (yieldGrant s).ctl = s.ctl ∧ (yieldGrant s).params = s.params ∧
    (yieldGrant s).ports = s.ports ∧ (yieldGrant s).adu = s.adu ∧ (yieldGrant s).pool = s.pool ∧
    (yieldGrant s).vom = s.vom ∧ (yieldGrant s).scratch = s.scratch ∧ (yieldGrant s).ejectInhibit = s.ejectInhibit ∧
    (yieldGrant s).cursors = s.cursors ∧ (yieldGrant s).srt = s.srt ∧ (yieldGrant s).ntu = s.ntu ∧
    (yieldGrant s).choice = s.choice ∧ (yieldGrant s).mpt.link = s.mpt.link ∧ (yieldGrant s).mpt.timer = s.mpt.timer ∧
    (yieldGrant s).mpt.retry = s.mpt.retry ∧ (yieldGrant s).mpt.nextOp = s.mpt.nextOp ∧
    (yieldGrant s).mpt.head = s.mpt.head ∧ (yieldGrant s).ape.unverified = s.ape.unverified ∧
    (yieldGrant s).ape.inWrite = s.ape.inWrite := by
  unfold yieldGrant
  try dsimp only
  (repeat' split) <;> simp

@[simp] theorem engineSettle_keeps (s : State) :
    (engineSettle s).pending = s.pending ∧ (engineSettle s).ctl = s.ctl ∧ (engineSettle s).params = s.params ∧
    (engineSettle s).scratch = s.scratch ∧ (engineSettle s).ejectInhibit = s.ejectInhibit ∧
    (engineSettle s).cursors = s.cursors ∧ (engineSettle s).srt = s.srt ∧ (engineSettle s).choice = s.choice ∧
    (engineSettle s).adu.nextRsn = s.adu.nextRsn ∧ (engineSettle s).adu.clock = s.adu.clock ∧
    (engineSettle s).pool.nextBsn = s.pool.nextBsn ∧ (engineSettle s).mpt.head = s.mpt.head ∧
    (engineSettle s).vom.serial = s.vom.serial ∧ (engineSettle s).vom.capacity = s.vom.capacity ∧
    (engineSettle s).vom.session = s.vom.session ∧ (engineSettle s).vom.frontier = s.vom.frontier ∧
    (engineSettle s).vom.frontierSlot = s.vom.frontierSlot ∧ (engineSettle s).vom.highestRsn = s.vom.highestRsn := by
  unfold engineSettle
  try dsimp only
  (repeat' split) <;> simp

@[simp] theorem engineCheck_keeps (s : State) :
    (engineCheck s).pending = s.pending ∧ (engineCheck s).ctl = s.ctl ∧ (engineCheck s).params = s.params ∧
    (engineCheck s).scratch = s.scratch ∧ (engineCheck s).ejectInhibit = s.ejectInhibit ∧
    (engineCheck s).cursors = s.cursors ∧ (engineCheck s).srt = s.srt ∧ (engineCheck s).choice = s.choice ∧
    (engineCheck s).adu.nextRsn = s.adu.nextRsn ∧ (engineCheck s).adu.clock = s.adu.clock ∧
    (engineCheck s).pool.nextBsn = s.pool.nextBsn ∧ (engineCheck s).mpt.head = s.mpt.head ∧
    (engineCheck s).vom.serial = s.vom.serial ∧ (engineCheck s).vom.capacity = s.vom.capacity ∧
    (engineCheck s).vom.session = s.vom.session ∧ (engineCheck s).vom.frontier = s.vom.frontier ∧
    (engineCheck s).vom.frontierSlot = s.vom.frontierSlot ∧ (engineCheck s).vom.highestRsn = s.vom.highestRsn := by
  unfold engineCheck
  try dsimp only
  (repeat' split) <;> simp

@[simp] theorem engineGranted_keeps (s : State) :
    (engineGranted s).pending = s.pending ∧ (engineGranted s).ctl = s.ctl ∧ (engineGranted s).params = s.params ∧
    (engineGranted s).scratch = s.scratch ∧ (engineGranted s).ejectInhibit = s.ejectInhibit ∧
    (engineGranted s).cursors = s.cursors ∧ (engineGranted s).srt = s.srt ∧ (engineGranted s).choice = s.choice ∧
    (engineGranted s).adu.nextRsn = s.adu.nextRsn ∧ (engineGranted s).adu.clock = s.adu.clock ∧
    (engineGranted s).pool.nextBsn = s.pool.nextBsn ∧ (engineGranted s).mpt.head = s.mpt.head ∧
    (engineGranted s).vom.serial = s.vom.serial ∧ (engineGranted s).vom.capacity = s.vom.capacity ∧
    (engineGranted s).vom.session = s.vom.session ∧ (engineGranted s).vom.frontier = s.vom.frontier ∧
    (engineGranted s).vom.frontierSlot = s.vom.frontierSlot ∧ (engineGranted s).vom.highestRsn = s.vom.highestRsn := by
  unfold engineGranted
  try dsimp only
  (repeat' split) <;> simp

@[simp] theorem engineSeekDone_keeps (s : State) :
    (engineSeekDone s).pending = s.pending ∧ (engineSeekDone s).ctl = s.ctl ∧ (engineSeekDone s).params = s.params ∧
    (engineSeekDone s).scratch = s.scratch ∧ (engineSeekDone s).ejectInhibit = s.ejectInhibit ∧
    (engineSeekDone s).cursors = s.cursors ∧ (engineSeekDone s).srt = s.srt ∧ (engineSeekDone s).choice = s.choice ∧
    (engineSeekDone s).adu.nextRsn = s.adu.nextRsn ∧ (engineSeekDone s).adu.clock = s.adu.clock ∧
    (engineSeekDone s).pool.nextBsn = s.pool.nextBsn ∧ (engineSeekDone s).mpt.head = s.mpt.head ∧
    (engineSeekDone s).vom.serial = s.vom.serial ∧ (engineSeekDone s).vom.capacity = s.vom.capacity ∧
    (engineSeekDone s).vom.session = s.vom.session ∧ (engineSeekDone s).vom.frontier = s.vom.frontier ∧
    (engineSeekDone s).vom.frontierSlot = s.vom.frontierSlot ∧ (engineSeekDone s).vom.highestRsn = s.vom.highestRsn := by
  unfold engineSeekDone
  try dsimp only
  (repeat' split) <;> simp

@[simp] theorem engineYield_keeps (s : State) :
    (engineYield s).pending = s.pending ∧ (engineYield s).ctl = s.ctl ∧ (engineYield s).params = s.params ∧
    (engineYield s).scratch = s.scratch ∧ (engineYield s).ejectInhibit = s.ejectInhibit ∧
    (engineYield s).cursors = s.cursors ∧ (engineYield s).srt = s.srt ∧ (engineYield s).choice = s.choice ∧
    (engineYield s).adu.nextRsn = s.adu.nextRsn ∧ (engineYield s).adu.clock = s.adu.clock ∧
    (engineYield s).pool.nextBsn = s.pool.nextBsn ∧ (engineYield s).mpt.head = s.mpt.head ∧
    (engineYield s).vom.serial = s.vom.serial ∧ (engineYield s).vom.capacity = s.vom.capacity ∧
    (engineYield s).vom.session = s.vom.session ∧ (engineYield s).vom.frontier = s.vom.frontier ∧
    (engineYield s).vom.frontierSlot = s.vom.frontierSlot ∧ (engineYield s).vom.highestRsn = s.vom.highestRsn := by
  unfold engineYield
  try dsimp only
  (repeat' split) <;> simp

@[simp] theorem engineStart_keeps (s : State) :
    (engineStart s).pending = s.pending ∧ (engineStart s).ctl = s.ctl ∧ (engineStart s).params = s.params ∧
    (engineStart s).scratch = s.scratch ∧ (engineStart s).ejectInhibit = s.ejectInhibit ∧
    (engineStart s).cursors = s.cursors ∧ (engineStart s).srt = s.srt ∧ (engineStart s).choice = s.choice ∧
    (engineStart s).adu.nextRsn = s.adu.nextRsn ∧ (engineStart s).adu.clock = s.adu.clock ∧
    (engineStart s).pool.nextBsn = s.pool.nextBsn ∧ (engineStart s).mpt.head = s.mpt.head ∧
    (engineStart s).vom.serial = s.vom.serial ∧ (engineStart s).vom.capacity = s.vom.capacity ∧
    (engineStart s).vom.session = s.vom.session ∧ (engineStart s).vom.frontier = s.vom.frontier ∧
    (engineStart s).vom.frontierSlot = s.vom.frontierSlot ∧ (engineStart s).vom.highestRsn = s.vom.highestRsn := by
  unfold engineStart
  try dsimp only
  (repeat' split) <;> simp

@[simp] theorem returnBlock_keeps (b : Block) (s : State) :
    (returnBlock b s).pending = s.pending ∧ (returnBlock b s).ctl = s.ctl ∧ (returnBlock b s).params = s.params ∧
    (returnBlock b s).adu = s.adu ∧ (returnBlock b s).mpt = s.mpt ∧ (returnBlock b s).ape = s.ape ∧
    (returnBlock b s).scratch = s.scratch ∧ (returnBlock b s).ejectInhibit = s.ejectInhibit ∧
    (returnBlock b s).cursors = s.cursors ∧ (returnBlock b s).srt = s.srt ∧ (returnBlock b s).signals = s.signals ∧
    (returnBlock b s).choice = s.choice ∧ (returnBlock b s).pool.free = s.pool.free ∧
    (returnBlock b s).pool.opened = s.pool.opened ∧ (returnBlock b s).pool.nextBsn = s.pool.nextBsn ∧
    (returnBlock b s).vom.state = s.vom.state ∧ (returnBlock b s).vom.cause = s.vom.cause ∧
    (returnBlock b s).vom.serial = s.vom.serial ∧ (returnBlock b s).vom.capacity = s.vom.capacity ∧
    (returnBlock b s).vom.appendPoint = s.vom.appendPoint ∧ (returnBlock b s).vom.session = s.vom.session ∧
    (returnBlock b s).vom.frontier = s.vom.frontier ∧ (returnBlock b s).vom.frontierSlot = s.vom.frontierSlot ∧
    (returnBlock b s).vom.highestRsn = s.vom.highestRsn ∧ (returnBlock b s).vom.lost = s.vom.lost ∧
    (returnBlock b s).vom.unload = s.vom.unload := by
  unfold returnBlock
  try dsimp only
  simp

@[simp] theorem afterFailure_keeps (n : Nat) (s : State) :
    (afterFailure n s).pending = s.pending ∧ (afterFailure n s).ctl = s.ctl ∧ (afterFailure n s).params = s.params ∧
    (afterFailure n s).scratch = s.scratch ∧ (afterFailure n s).ejectInhibit = s.ejectInhibit ∧
    (afterFailure n s).cursors = s.cursors ∧ (afterFailure n s).srt = s.srt ∧ (afterFailure n s).choice = s.choice ∧
    (afterFailure n s).adu.nextRsn = s.adu.nextRsn ∧ (afterFailure n s).adu.clock = s.adu.clock ∧
    (afterFailure n s).pool.nextBsn = s.pool.nextBsn ∧ (afterFailure n s).mpt.head = s.mpt.head ∧
    (afterFailure n s).vom.serial = s.vom.serial ∧ (afterFailure n s).vom.capacity = s.vom.capacity ∧
    (afterFailure n s).vom.session = s.vom.session ∧ (afterFailure n s).vom.frontier = s.vom.frontier ∧
    (afterFailure n s).vom.frontierSlot = s.vom.frontierSlot ∧ (afterFailure n s).vom.highestRsn = s.vom.highestRsn := by
  unfold afterFailure
  try dsimp only
  (repeat' split) <;> simp

@[simp] theorem writeEnded_keeps (ok : Bool) (s : State) :
    (writeEnded ok s).pending = s.pending ∧ (writeEnded ok s).ctl = s.ctl ∧ (writeEnded ok s).params = s.params ∧
    (writeEnded ok s).scratch = s.scratch ∧ (writeEnded ok s).ejectInhibit = s.ejectInhibit ∧
    (writeEnded ok s).cursors = s.cursors ∧ (writeEnded ok s).srt = s.srt ∧ (writeEnded ok s).choice = s.choice ∧
    (writeEnded ok s).adu.nextRsn = s.adu.nextRsn ∧ (writeEnded ok s).adu.clock = s.adu.clock ∧
    (writeEnded ok s).pool.nextBsn = s.pool.nextBsn ∧ (writeEnded ok s).mpt.head = s.mpt.head ∧
    (writeEnded ok s).vom.serial = s.vom.serial ∧ (writeEnded ok s).vom.capacity = s.vom.capacity ∧
    (writeEnded ok s).vom.session = s.vom.session ∧ (writeEnded ok s).vom.frontier = s.vom.frontier ∧
    (writeEnded ok s).vom.frontierSlot = s.vom.frontierSlot ∧ (writeEnded ok s).vom.highestRsn = s.vom.highestRsn := by
  unfold writeEnded
  try dsimp only
  (repeat' split) <;> simp

@[simp] theorem doneWaiters_keeps (bsn slot : Nat) (l : List (Port × Tag)) (s : State) :
    (doneWaiters bsn slot l s).pending = s.pending ∧ (doneWaiters bsn slot l s).ctl = s.ctl ∧
    (doneWaiters bsn slot l s).params = s.params ∧ (doneWaiters bsn slot l s).adu = s.adu ∧
    (doneWaiters bsn slot l s).pool = s.pool ∧ (doneWaiters bsn slot l s).mpt = s.mpt ∧
    (doneWaiters bsn slot l s).ape = s.ape ∧ (doneWaiters bsn slot l s).vom = s.vom ∧
    (doneWaiters bsn slot l s).scratch = s.scratch ∧ (doneWaiters bsn slot l s).ejectInhibit = s.ejectInhibit ∧
    (doneWaiters bsn slot l s).cursors = s.cursors ∧ (doneWaiters bsn slot l s).srt = s.srt ∧
    (doneWaiters bsn slot l s).signals = s.signals ∧ (doneWaiters bsn slot l s).choice = s.choice := by
  induction l generalizing s with
  | nil => simp [doneWaiters]
  | cons a l ih =>
    unfold doneWaiters
    try dsimp only
    simp [ih]

@[simp] theorem makeDurable_keeps (u : Unverified) (rest : List Unverified) (s : State) :
    (makeDurable u rest s).pending = s.pending ∧ (makeDurable u rest s).ctl = s.ctl ∧
    (makeDurable u rest s).params = s.params ∧ (makeDurable u rest s).adu = s.adu ∧ (makeDurable u rest s).mpt = s.mpt ∧
    (makeDurable u rest s).scratch = s.scratch ∧ (makeDurable u rest s).ejectInhibit = s.ejectInhibit ∧
    (makeDurable u rest s).cursors = s.cursors ∧ (makeDurable u rest s).srt = s.srt ∧
    (makeDurable u rest s).signals = s.signals ∧ (makeDurable u rest s).choice = s.choice ∧
    (makeDurable u rest s).pool.opened = s.pool.opened ∧ (makeDurable u rest s).pool.sealed = s.pool.sealed ∧
    (makeDurable u rest s).pool.nextBsn = s.pool.nextBsn ∧ (makeDurable u rest s).ape.state = s.ape.state ∧
    (makeDurable u rest s).ape.inWrite = s.ape.inWrite ∧ (makeDurable u rest s).ape.yield = s.ape.yield ∧
    (makeDurable u rest s).vom.state = s.vom.state ∧ (makeDurable u rest s).vom.cause = s.vom.cause ∧
    (makeDurable u rest s).vom.serial = s.vom.serial ∧ (makeDurable u rest s).vom.capacity = s.vom.capacity ∧
    (makeDurable u rest s).vom.appendPoint = s.vom.appendPoint ∧ (makeDurable u rest s).vom.remaining = s.vom.remaining ∧
    (makeDurable u rest s).vom.level = s.vom.level ∧ (makeDurable u rest s).vom.session = s.vom.session ∧
    (makeDurable u rest s).vom.lost = s.vom.lost ∧ (makeDurable u rest s).vom.unload = s.vom.unload := by
  unfold makeDurable
  try dsimp only
  simp

@[simp] theorem advance_keeps (l : List Unverified) (s : State) :
    (advance l s).pending = s.pending ∧ (advance l s).ctl = s.ctl ∧ (advance l s).params = s.params ∧
    (advance l s).adu = s.adu ∧ (advance l s).mpt = s.mpt ∧ (advance l s).scratch = s.scratch ∧
    (advance l s).ejectInhibit = s.ejectInhibit ∧ (advance l s).cursors = s.cursors ∧ (advance l s).srt = s.srt ∧
    (advance l s).signals = s.signals ∧ (advance l s).choice = s.choice ∧ (advance l s).pool.opened = s.pool.opened ∧
    (advance l s).pool.sealed = s.pool.sealed ∧ (advance l s).pool.nextBsn = s.pool.nextBsn ∧
    (advance l s).ape.state = s.ape.state ∧ (advance l s).ape.inWrite = s.ape.inWrite ∧
    (advance l s).ape.yield = s.ape.yield ∧ (advance l s).vom.state = s.vom.state ∧
    (advance l s).vom.cause = s.vom.cause ∧ (advance l s).vom.serial = s.vom.serial ∧
    (advance l s).vom.capacity = s.vom.capacity ∧ (advance l s).vom.appendPoint = s.vom.appendPoint ∧
    (advance l s).vom.remaining = s.vom.remaining ∧ (advance l s).vom.level = s.vom.level ∧
    (advance l s).vom.session = s.vom.session ∧ (advance l s).vom.lost = s.vom.lost ∧
    (advance l s).vom.unload = s.vom.unload := by
  induction l generalizing s with
  | nil => simp [advance]
  | cons a l ih =>
    unfold advance
    try dsimp only
    (repeat' split) <;> simp [ih]

@[simp] theorem relocate_keeps (i : Nat) (s : State) :
    (relocate i s).pending = s.pending ∧ (relocate i s).ctl = s.ctl ∧ (relocate i s).params = s.params ∧
    (relocate i s).scratch = s.scratch ∧ (relocate i s).ejectInhibit = s.ejectInhibit ∧
    (relocate i s).cursors = s.cursors ∧ (relocate i s).srt = s.srt ∧ (relocate i s).choice = s.choice ∧
    (relocate i s).adu.nextRsn = s.adu.nextRsn ∧ (relocate i s).adu.clock = s.adu.clock ∧
    (relocate i s).pool.nextBsn = s.pool.nextBsn ∧ (relocate i s).mpt.head = s.mpt.head ∧
    (relocate i s).vom.serial = s.vom.serial ∧ (relocate i s).vom.capacity = s.vom.capacity ∧
    (relocate i s).vom.session = s.vom.session ∧ (relocate i s).vom.frontier = s.vom.frontier ∧
    (relocate i s).vom.frontierSlot = s.vom.frontierSlot ∧ (relocate i s).vom.highestRsn = s.vom.highestRsn := by
  unfold relocate
  try dsimp only
  (repeat' split) <;> simp

@[simp] theorem verifyReport_keeps (slot : Nat) (pass : Bool) (s : State) :
    (verifyReport slot pass s).pending = s.pending ∧ (verifyReport slot pass s).ctl = s.ctl ∧
    (verifyReport slot pass s).params = s.params ∧ (verifyReport slot pass s).scratch = s.scratch ∧
    (verifyReport slot pass s).ejectInhibit = s.ejectInhibit ∧ (verifyReport slot pass s).cursors = s.cursors ∧
    (verifyReport slot pass s).srt = s.srt ∧ (verifyReport slot pass s).choice = s.choice ∧
    (verifyReport slot pass s).adu.nextRsn = s.adu.nextRsn ∧ (verifyReport slot pass s).adu.clock = s.adu.clock ∧
    (verifyReport slot pass s).pool.nextBsn = s.pool.nextBsn ∧ (verifyReport slot pass s).mpt.head = s.mpt.head ∧
    (verifyReport slot pass s).vom.serial = s.vom.serial ∧ (verifyReport slot pass s).vom.capacity = s.vom.capacity ∧
    (verifyReport slot pass s).vom.session = s.vom.session := by
  unfold verifyReport
  try dsimp only
  (repeat' split) <;> simp

@[simp] theorem verifyExpired_keeps (slot : Nat) (s : State) :
    (verifyExpired slot s).pending = s.pending ∧ (verifyExpired slot s).ctl = s.ctl ∧
    (verifyExpired slot s).params = s.params ∧ (verifyExpired slot s).scratch = s.scratch ∧
    (verifyExpired slot s).ejectInhibit = s.ejectInhibit ∧ (verifyExpired slot s).cursors = s.cursors ∧
    (verifyExpired slot s).srt = s.srt ∧ (verifyExpired slot s).choice = s.choice ∧
    (verifyExpired slot s).adu.nextRsn = s.adu.nextRsn ∧ (verifyExpired slot s).adu.clock = s.adu.clock ∧
    (verifyExpired slot s).pool.nextBsn = s.pool.nextBsn ∧ (verifyExpired slot s).mpt.head = s.mpt.head ∧
    (verifyExpired slot s).vom.serial = s.vom.serial ∧ (verifyExpired slot s).vom.capacity = s.vom.capacity ∧
    (verifyExpired slot s).vom.session = s.vom.session ∧ (verifyExpired slot s).vom.frontier = s.vom.frontier ∧
    (verifyExpired slot s).vom.frontierSlot = s.vom.frontierSlot ∧
    (verifyExpired slot s).vom.highestRsn = s.vom.highestRsn := by
  unfold verifyExpired
  try dsimp only
  (repeat' split) <;> simp

@[simp] theorem startAgeExpired_keeps (bsn : Nat) (s : State) :
    (startAgeExpired bsn s).pending = s.pending ∧ (startAgeExpired bsn s).ctl = s.ctl ∧
    (startAgeExpired bsn s).params = s.params ∧ (startAgeExpired bsn s).ports = s.ports ∧
    (startAgeExpired bsn s).adu = s.adu ∧ (startAgeExpired bsn s).mpt = s.mpt ∧ (startAgeExpired bsn s).ape = s.ape ∧
    (startAgeExpired bsn s).vom = s.vom ∧ (startAgeExpired bsn s).scratch = s.scratch ∧
    (startAgeExpired bsn s).ejectInhibit = s.ejectInhibit ∧ (startAgeExpired bsn s).cursors = s.cursors ∧
    (startAgeExpired bsn s).srt = s.srt ∧ (startAgeExpired bsn s).ntu = s.ntu ∧
    (startAgeExpired bsn s).choice = s.choice ∧ (startAgeExpired bsn s).pool.free = s.pool.free ∧
    (startAgeExpired bsn s).pool.opened = s.pool.opened ∧ (startAgeExpired bsn s).pool.nextBsn = s.pool.nextBsn := by
  unfold startAgeExpired
  try dsimp only
  (repeat' split) <;> simp

@[simp] theorem deriveCursor_keeps (p : Port) (s : State) :
    (deriveCursor p s).pending = s.pending ∧ (deriveCursor p s).ctl = s.ctl ∧ (deriveCursor p s).params = s.params ∧
    (deriveCursor p s).ports = s.ports ∧ (deriveCursor p s).adu = s.adu ∧ (deriveCursor p s).pool = s.pool ∧
    (deriveCursor p s).mpt = s.mpt ∧ (deriveCursor p s).ape = s.ape ∧ (deriveCursor p s).vom = s.vom ∧
    (deriveCursor p s).scratch = s.scratch ∧ (deriveCursor p s).ejectInhibit = s.ejectInhibit ∧
    (deriveCursor p s).srt = s.srt ∧ (deriveCursor p s).ntu = s.ntu ∧ (deriveCursor p s).signals = s.signals ∧
    (deriveCursor p s).choice = s.choice := by
  unfold deriveCursor
  try dsimp only
  simp

@[simp] theorem fillCheck_keeps (p : Port) (s : State) :
    (fillCheck p s).pending = s.pending ∧ (fillCheck p s).ctl = s.ctl ∧ (fillCheck p s).params = s.params ∧
    (fillCheck p s).ports = s.ports ∧ (fillCheck p s).adu = s.adu ∧ (fillCheck p s).pool = s.pool ∧
    (fillCheck p s).vom = s.vom ∧ (fillCheck p s).scratch = s.scratch ∧ (fillCheck p s).ejectInhibit = s.ejectInhibit ∧
    (fillCheck p s).srt = s.srt ∧ (fillCheck p s).ntu = s.ntu ∧ (fillCheck p s).choice = s.choice ∧
    (fillCheck p s).mpt.link = s.mpt.link ∧ (fillCheck p s).mpt.timer = s.mpt.timer ∧
    (fillCheck p s).mpt.retry = s.mpt.retry ∧ (fillCheck p s).mpt.nextOp = s.mpt.nextOp ∧
    (fillCheck p s).mpt.head = s.mpt.head ∧ (fillCheck p s).ape.state = s.ape.state ∧
    (fillCheck p s).ape.unverified = s.ape.unverified ∧ (fillCheck p s).ape.inWrite = s.ape.inWrite := by
  unfold fillCheck
  try dsimp only
  (repeat' split) <;> simp

@[simp] theorem replyEndOfData_keeps (p : Port) (t : Tag) (s : State) :
    (replyEndOfData p t s).pending = s.pending ∧ (replyEndOfData p t s).ctl = s.ctl ∧
    (replyEndOfData p t s).params = s.params ∧ (replyEndOfData p t s).adu = s.adu ∧
    (replyEndOfData p t s).pool = s.pool ∧ (replyEndOfData p t s).mpt = s.mpt ∧ (replyEndOfData p t s).ape = s.ape ∧
    (replyEndOfData p t s).vom = s.vom ∧ (replyEndOfData p t s).scratch = s.scratch ∧
    (replyEndOfData p t s).ejectInhibit = s.ejectInhibit ∧ (replyEndOfData p t s).srt = s.srt ∧
    (replyEndOfData p t s).signals = s.signals ∧ (replyEndOfData p t s).choice = s.choice := by
  unfold replyEndOfData
  try dsimp only
  simp

@[simp] theorem deliver_keeps (p : Port) (t : Tag) (s : State) :
    (deliver p t s).pending = s.pending ∧ (deliver p t s).ctl = s.ctl ∧ (deliver p t s).params = s.params ∧
    (deliver p t s).adu = s.adu ∧ (deliver p t s).vom = s.vom ∧ (deliver p t s).scratch = s.scratch ∧
    (deliver p t s).ejectInhibit = s.ejectInhibit ∧ (deliver p t s).srt = s.srt ∧ (deliver p t s).choice = s.choice ∧
    (deliver p t s).pool.opened = s.pool.opened ∧ (deliver p t s).pool.sealed = s.pool.sealed ∧
    (deliver p t s).pool.nextBsn = s.pool.nextBsn ∧ (deliver p t s).mpt.link = s.mpt.link ∧
    (deliver p t s).mpt.timer = s.mpt.timer ∧ (deliver p t s).mpt.retry = s.mpt.retry ∧
    (deliver p t s).mpt.nextOp = s.mpt.nextOp ∧ (deliver p t s).mpt.head = s.mpt.head ∧
    (deliver p t s).ape.state = s.ape.state ∧ (deliver p t s).ape.unverified = s.ape.unverified ∧
    (deliver p t s).ape.inWrite = s.ape.inWrite := by
  unfold deliver
  try dsimp only
  (repeat' split) <;> simp

@[simp] theorem deliverPending_keeps (p : Port) (s : State) :
    (deliverPending p s).pending = s.pending ∧ (deliverPending p s).ctl = s.ctl ∧
    (deliverPending p s).params = s.params ∧ (deliverPending p s).adu = s.adu ∧ (deliverPending p s).vom = s.vom ∧
    (deliverPending p s).scratch = s.scratch ∧ (deliverPending p s).ejectInhibit = s.ejectInhibit ∧
    (deliverPending p s).srt = s.srt ∧ (deliverPending p s).choice = s.choice ∧
    (deliverPending p s).pool.opened = s.pool.opened ∧ (deliverPending p s).pool.sealed = s.pool.sealed ∧
    (deliverPending p s).pool.nextBsn = s.pool.nextBsn ∧ (deliverPending p s).mpt.link = s.mpt.link ∧
    (deliverPending p s).mpt.timer = s.mpt.timer ∧ (deliverPending p s).mpt.retry = s.mpt.retry ∧
    (deliverPending p s).mpt.nextOp = s.mpt.nextOp ∧ (deliverPending p s).mpt.head = s.mpt.head ∧
    (deliverPending p s).ape.state = s.ape.state ∧ (deliverPending p s).ape.unverified = s.ape.unverified ∧
    (deliverPending p s).ape.inWrite = s.ape.inWrite := by
  unfold deliverPending
  try dsimp only
  (repeat' split) <;> simp

@[simp] theorem endPending_keeps (p : Port) (s : State) :
    (endPending p s).pending = s.pending ∧ (endPending p s).ctl = s.ctl ∧ (endPending p s).params = s.params ∧
    (endPending p s).adu = s.adu ∧ (endPending p s).pool = s.pool ∧ (endPending p s).mpt = s.mpt ∧
    (endPending p s).ape = s.ape ∧ (endPending p s).vom = s.vom ∧ (endPending p s).scratch = s.scratch ∧
    (endPending p s).ejectInhibit = s.ejectInhibit ∧ (endPending p s).srt = s.srt ∧
    (endPending p s).signals = s.signals ∧ (endPending p s).choice = s.choice := by
  unfold endPending
  try dsimp only
  (repeat' split) <;> simp

@[simp] theorem keepNext_keeps (p : Port) (t : Tag) (s : State) :
    (keepNext p t s).pending = s.pending ∧ (keepNext p t s).ctl = s.ctl ∧ (keepNext p t s).params = s.params ∧
    (keepNext p t s).adu = s.adu ∧ (keepNext p t s).pool = s.pool ∧ (keepNext p t s).mpt = s.mpt ∧
    (keepNext p t s).ape = s.ape ∧ (keepNext p t s).vom = s.vom ∧ (keepNext p t s).scratch = s.scratch ∧
    (keepNext p t s).ejectInhibit = s.ejectInhibit ∧ (keepNext p t s).srt = s.srt ∧ (keepNext p t s).ntu = s.ntu ∧
    (keepNext p t s).signals = s.signals ∧ (keepNext p t s).choice = s.choice := by
  unfold keepNext
  try dsimp only
  simp

@[simp] theorem replayNext_keeps (p : Port) (t : Tag) (s : State) :
    (replayNext p t s).pending = s.pending ∧ (replayNext p t s).ctl = s.ctl ∧ (replayNext p t s).params = s.params ∧
    (replayNext p t s).adu = s.adu ∧ (replayNext p t s).vom = s.vom ∧ (replayNext p t s).scratch = s.scratch ∧
    (replayNext p t s).ejectInhibit = s.ejectInhibit ∧ (replayNext p t s).srt = s.srt ∧
    (replayNext p t s).choice = s.choice ∧ (replayNext p t s).pool.opened = s.pool.opened ∧
    (replayNext p t s).pool.sealed = s.pool.sealed ∧ (replayNext p t s).pool.nextBsn = s.pool.nextBsn ∧
    (replayNext p t s).mpt.link = s.mpt.link ∧ (replayNext p t s).mpt.timer = s.mpt.timer ∧
    (replayNext p t s).mpt.retry = s.mpt.retry ∧ (replayNext p t s).mpt.nextOp = s.mpt.nextOp ∧
    (replayNext p t s).mpt.head = s.mpt.head ∧ (replayNext p t s).ape.state = s.ape.state ∧
    (replayNext p t s).ape.unverified = s.ape.unverified ∧ (replayNext p t s).ape.inWrite = s.ape.inWrite := by
  unfold replayNext
  try dsimp only
  (repeat' split) <;> simp

@[simp] theorem abortNext_keeps (p : Port) (t : Tag) (s : State) :
    (abortNext p t s).pending = s.pending ∧ (abortNext p t s).ctl = s.ctl ∧ (abortNext p t s).params = s.params ∧
    (abortNext p t s).adu = s.adu ∧ (abortNext p t s).pool = s.pool ∧ (abortNext p t s).mpt = s.mpt ∧
    (abortNext p t s).ape = s.ape ∧ (abortNext p t s).vom = s.vom ∧ (abortNext p t s).scratch = s.scratch ∧
    (abortNext p t s).ejectInhibit = s.ejectInhibit ∧ (abortNext p t s).srt = s.srt ∧
    (abortNext p t s).signals = s.signals ∧ (abortNext p t s).choice = s.choice := by
  unfold abortNext
  try dsimp only
  simp

@[simp] theorem stopFill_keeps (p : Port) (ph : Phase) (s : State) :
    (stopFill p ph s).pending = s.pending ∧ (stopFill p ph s).ctl = s.ctl ∧ (stopFill p ph s).params = s.params ∧
    (stopFill p ph s).adu = s.adu ∧ (stopFill p ph s).pool = s.pool ∧ (stopFill p ph s).vom = s.vom ∧
    (stopFill p ph s).scratch = s.scratch ∧ (stopFill p ph s).ejectInhibit = s.ejectInhibit ∧
    (stopFill p ph s).srt = s.srt ∧ (stopFill p ph s).choice = s.choice ∧ (stopFill p ph s).mpt.link = s.mpt.link ∧
    (stopFill p ph s).mpt.timer = s.mpt.timer ∧ (stopFill p ph s).mpt.retry = s.mpt.retry ∧
    (stopFill p ph s).mpt.nextOp = s.mpt.nextOp ∧ (stopFill p ph s).mpt.head = s.mpt.head ∧
    (stopFill p ph s).ape.state = s.ape.state ∧ (stopFill p ph s).ape.unverified = s.ape.unverified ∧
    (stopFill p ph s).ape.inWrite = s.ape.inWrite := by
  unfold stopFill
  try dsimp only
  (repeat' split) <;> simp

@[simp] theorem fillStep_keeps (p : Port) (s : State) :
    (fillStep p s).pending = s.pending ∧ (fillStep p s).ctl = s.ctl ∧ (fillStep p s).params = s.params ∧
    (fillStep p s).adu = s.adu ∧ (fillStep p s).vom = s.vom ∧ (fillStep p s).scratch = s.scratch ∧
    (fillStep p s).ejectInhibit = s.ejectInhibit ∧ (fillStep p s).srt = s.srt ∧ (fillStep p s).choice = s.choice ∧
    (fillStep p s).pool.opened = s.pool.opened ∧ (fillStep p s).pool.sealed = s.pool.sealed ∧
    (fillStep p s).pool.nextBsn = s.pool.nextBsn ∧ (fillStep p s).mpt.head = s.mpt.head ∧
    (fillStep p s).ape.state = s.ape.state ∧ (fillStep p s).ape.unverified = s.ape.unverified ∧
    (fillStep p s).ape.inWrite = s.ape.inWrite := by
  unfold fillStep
  try dsimp only
  (repeat' split) <;> simp

@[simp] theorem cursorGranted_keeps (p : Port) (s : State) :
    (cursorGranted p s).pending = s.pending ∧ (cursorGranted p s).ctl = s.ctl ∧ (cursorGranted p s).params = s.params ∧
    (cursorGranted p s).adu = s.adu ∧ (cursorGranted p s).vom = s.vom ∧ (cursorGranted p s).scratch = s.scratch ∧
    (cursorGranted p s).ejectInhibit = s.ejectInhibit ∧ (cursorGranted p s).srt = s.srt ∧
    (cursorGranted p s).choice = s.choice ∧ (cursorGranted p s).pool.opened = s.pool.opened ∧
    (cursorGranted p s).pool.sealed = s.pool.sealed ∧ (cursorGranted p s).pool.nextBsn = s.pool.nextBsn ∧
    (cursorGranted p s).mpt.head = s.mpt.head ∧ (cursorGranted p s).ape.state = s.ape.state ∧
    (cursorGranted p s).ape.unverified = s.ape.unverified ∧ (cursorGranted p s).ape.inWrite = s.ape.inWrite := by
  unfold cursorGranted
  try dsimp only
  (repeat' split) <;> simp

@[simp] theorem cursorRead_keeps (p : Port) (slot : Nat) (cls : SlotClass) (im : List Byte) (s : State) :
    (cursorRead p slot cls im s).pending = s.pending ∧ (cursorRead p slot cls im s).ctl = s.ctl ∧
    (cursorRead p slot cls im s).params = s.params ∧ (cursorRead p slot cls im s).adu = s.adu ∧
    (cursorRead p slot cls im s).vom = s.vom ∧ (cursorRead p slot cls im s).scratch = s.scratch ∧
    (cursorRead p slot cls im s).ejectInhibit = s.ejectInhibit ∧ (cursorRead p slot cls im s).srt = s.srt ∧
    (cursorRead p slot cls im s).choice = s.choice ∧ (cursorRead p slot cls im s).pool.opened = s.pool.opened ∧
    (cursorRead p slot cls im s).pool.sealed = s.pool.sealed ∧
    (cursorRead p slot cls im s).pool.nextBsn = s.pool.nextBsn ∧ (cursorRead p slot cls im s).mpt.head = s.mpt.head ∧
    (cursorRead p slot cls im s).ape.state = s.ape.state ∧
    (cursorRead p slot cls im s).ape.unverified = s.ape.unverified ∧
    (cursorRead p slot cls im s).ape.inWrite = s.ape.inWrite := by
  unfold cursorRead
  try dsimp only
  (repeat' split) <;> simp

@[simp] theorem markClosed_keeps (p : Port) (s : State) :
    (markClosed p s).pending = s.pending ∧ (markClosed p s).ctl = s.ctl ∧ (markClosed p s).params = s.params ∧
    (markClosed p s).ports = s.ports ∧ (markClosed p s).adu = s.adu ∧ (markClosed p s).pool = s.pool ∧
    (markClosed p s).ape = s.ape ∧ (markClosed p s).vom = s.vom ∧ (markClosed p s).scratch = s.scratch ∧
    (markClosed p s).ejectInhibit = s.ejectInhibit ∧ (markClosed p s).cursors = s.cursors ∧
    (markClosed p s).srt = s.srt ∧ (markClosed p s).ntu = s.ntu ∧ (markClosed p s).signals = s.signals ∧
    (markClosed p s).choice = s.choice ∧ (markClosed p s).mpt.timer = s.mpt.timer ∧
    (markClosed p s).mpt.retry = s.mpt.retry ∧ (markClosed p s).mpt.nextOp = s.mpt.nextOp ∧
    (markClosed p s).mpt.head = s.mpt.head ∧ (markClosed p s).mpt.holder = s.mpt.holder ∧
    (markClosed p s).mpt.writes = s.mpt.writes ∧ (markClosed p s).mpt.burstLimit = s.mpt.burstLimit ∧
    (markClosed p s).mpt.lastServed = s.mpt.lastServed := by
  unfold markClosed
  try dsimp only
  simp

@[simp] theorem answerNext_keeps (p : Port) (st : Status) (s : State) :
    (answerNext p st s).pending = s.pending ∧ (answerNext p st s).ctl = s.ctl ∧ (answerNext p st s).params = s.params ∧
    (answerNext p st s).adu = s.adu ∧ (answerNext p st s).pool = s.pool ∧ (answerNext p st s).mpt = s.mpt ∧
    (answerNext p st s).ape = s.ape ∧ (answerNext p st s).vom = s.vom ∧ (answerNext p st s).scratch = s.scratch ∧
    (answerNext p st s).ejectInhibit = s.ejectInhibit ∧ (answerNext p st s).cursors = s.cursors ∧
    (answerNext p st s).srt = s.srt ∧ (answerNext p st s).signals = s.signals ∧
    (answerNext p st s).choice = s.choice := by
  unfold answerNext
  try dsimp only
  (repeat' split) <;> simp

@[simp] theorem dropCursor_keeps (p : Port) (c : Cursor) (s : State) :
    (dropCursor p c s).pending = s.pending ∧ (dropCursor p c s).ctl = s.ctl ∧ (dropCursor p c s).params = s.params ∧
    (dropCursor p c s).ports = s.ports ∧ (dropCursor p c s).adu = s.adu ∧ (dropCursor p c s).vom = s.vom ∧
    (dropCursor p c s).scratch = s.scratch ∧ (dropCursor p c s).ejectInhibit = s.ejectInhibit ∧
    (dropCursor p c s).srt = s.srt ∧ (dropCursor p c s).ntu = s.ntu ∧ (dropCursor p c s).choice = s.choice ∧
    (dropCursor p c s).pool.opened = s.pool.opened ∧ (dropCursor p c s).pool.sealed = s.pool.sealed ∧
    (dropCursor p c s).pool.nextBsn = s.pool.nextBsn ∧ (dropCursor p c s).mpt.timer = s.mpt.timer ∧
    (dropCursor p c s).mpt.retry = s.mpt.retry ∧ (dropCursor p c s).mpt.nextOp = s.mpt.nextOp ∧
    (dropCursor p c s).mpt.head = s.mpt.head ∧ (dropCursor p c s).ape.state = s.ape.state ∧
    (dropCursor p c s).ape.unverified = s.ape.unverified ∧ (dropCursor p c s).ape.inWrite = s.ape.inWrite := by
  unfold dropCursor
  try dsimp only
  simp

@[simp] theorem closeCursor_keeps (p : Port) (b : Bool) (s : State) :
    (closeCursor p b s).pending = s.pending ∧ (closeCursor p b s).ctl = s.ctl ∧ (closeCursor p b s).params = s.params ∧
    (closeCursor p b s).adu = s.adu ∧ (closeCursor p b s).vom = s.vom ∧ (closeCursor p b s).scratch = s.scratch ∧
    (closeCursor p b s).ejectInhibit = s.ejectInhibit ∧ (closeCursor p b s).srt = s.srt ∧
    (closeCursor p b s).choice = s.choice ∧ (closeCursor p b s).pool.opened = s.pool.opened ∧
    (closeCursor p b s).pool.sealed = s.pool.sealed ∧ (closeCursor p b s).pool.nextBsn = s.pool.nextBsn ∧
    (closeCursor p b s).mpt.timer = s.mpt.timer ∧ (closeCursor p b s).mpt.retry = s.mpt.retry ∧
    (closeCursor p b s).mpt.nextOp = s.mpt.nextOp ∧ (closeCursor p b s).mpt.head = s.mpt.head ∧
    (closeCursor p b s).ape.state = s.ape.state ∧ (closeCursor p b s).ape.unverified = s.ape.unverified ∧
    (closeCursor p b s).ape.inWrite = s.ape.inWrite := by
  unfold closeCursor
  try dsimp only
  (repeat' split) <;> simp

@[simp] theorem replayClose_keeps (p : Port) (t : Tag) (s : State) :
    (replayClose p t s).pending = s.pending ∧ (replayClose p t s).ctl = s.ctl ∧ (replayClose p t s).params = s.params ∧
    (replayClose p t s).adu = s.adu ∧ (replayClose p t s).vom = s.vom ∧ (replayClose p t s).scratch = s.scratch ∧
    (replayClose p t s).ejectInhibit = s.ejectInhibit ∧ (replayClose p t s).srt = s.srt ∧
    (replayClose p t s).choice = s.choice ∧ (replayClose p t s).pool.opened = s.pool.opened ∧
    (replayClose p t s).pool.sealed = s.pool.sealed ∧ (replayClose p t s).pool.nextBsn = s.pool.nextBsn ∧
    (replayClose p t s).mpt.timer = s.mpt.timer ∧ (replayClose p t s).mpt.retry = s.mpt.retry ∧
    (replayClose p t s).mpt.nextOp = s.mpt.nextOp ∧ (replayClose p t s).mpt.head = s.mpt.head ∧
    (replayClose p t s).ape.state = s.ape.state ∧ (replayClose p t s).ape.unverified = s.ape.unverified ∧
    (replayClose p t s).ape.inWrite = s.ape.inWrite := by
  unfold replayClose
  try dsimp only
  simp

@[simp] theorem replayOpen_keeps (p : Port) (t : Tag) (st : Start) (f : Filter) (s : State) :
    (replayOpen p t st f s).pending = s.pending ∧ (replayOpen p t st f s).ctl = s.ctl ∧
    (replayOpen p t st f s).params = s.params ∧ (replayOpen p t st f s).adu = s.adu ∧
    (replayOpen p t st f s).vom = s.vom ∧ (replayOpen p t st f s).scratch = s.scratch ∧
    (replayOpen p t st f s).ejectInhibit = s.ejectInhibit ∧ (replayOpen p t st f s).srt = s.srt ∧
    (replayOpen p t st f s).choice = s.choice ∧ (replayOpen p t st f s).pool.opened = s.pool.opened ∧
    (replayOpen p t st f s).pool.sealed = s.pool.sealed ∧ (replayOpen p t st f s).pool.nextBsn = s.pool.nextBsn ∧
    (replayOpen p t st f s).mpt.timer = s.mpt.timer ∧ (replayOpen p t st f s).mpt.retry = s.mpt.retry ∧
    (replayOpen p t st f s).mpt.nextOp = s.mpt.nextOp ∧ (replayOpen p t st f s).mpt.head = s.mpt.head ∧
    (replayOpen p t st f s).ape.state = s.ape.state ∧ (replayOpen p t st f s).ape.unverified = s.ape.unverified ∧
    (replayOpen p t st f s).ape.inWrite = s.ape.inWrite := by
  unfold replayOpen
  try dsimp only
  (repeat' split) <;> simp

@[simp] theorem failCursor_keeps (p : Port) (s : State) :
    (failCursor s p).pending = s.pending ∧ (failCursor s p).ctl = s.ctl ∧ (failCursor s p).params = s.params ∧
    (failCursor s p).adu = s.adu ∧ (failCursor s p).vom = s.vom ∧ (failCursor s p).scratch = s.scratch ∧
    (failCursor s p).ejectInhibit = s.ejectInhibit ∧ (failCursor s p).srt = s.srt ∧ (failCursor s p).choice = s.choice ∧
    (failCursor s p).pool.opened = s.pool.opened ∧ (failCursor s p).pool.sealed = s.pool.sealed ∧
    (failCursor s p).pool.nextBsn = s.pool.nextBsn ∧ (failCursor s p).mpt.timer = s.mpt.timer ∧
    (failCursor s p).mpt.retry = s.mpt.retry ∧ (failCursor s p).mpt.nextOp = s.mpt.nextOp ∧
    (failCursor s p).mpt.head = s.mpt.head ∧ (failCursor s p).ape.state = s.ape.state ∧
    (failCursor s p).ape.unverified = s.ape.unverified ∧ (failCursor s p).ape.inWrite = s.ape.inWrite := by
  unfold failCursor
  try dsimp only
  (repeat' split) <;> simp

@[simp] theorem failCursors_keeps (s : State) :
    (failCursors s).pending = s.pending ∧ (failCursors s).ctl = s.ctl ∧ (failCursors s).params = s.params ∧
    (failCursors s).adu = s.adu ∧ (failCursors s).vom = s.vom ∧ (failCursors s).scratch = s.scratch ∧
    (failCursors s).ejectInhibit = s.ejectInhibit ∧ (failCursors s).srt = s.srt ∧ (failCursors s).choice = s.choice ∧
    (failCursors s).pool.opened = s.pool.opened ∧ (failCursors s).pool.sealed = s.pool.sealed ∧
    (failCursors s).pool.nextBsn = s.pool.nextBsn ∧ (failCursors s).mpt.timer = s.mpt.timer ∧
    (failCursors s).mpt.retry = s.mpt.retry ∧ (failCursors s).mpt.nextOp = s.mpt.nextOp ∧
    (failCursors s).mpt.head = s.mpt.head ∧ (failCursors s).ape.state = s.ape.state ∧
    (failCursors s).ape.unverified = s.ape.unverified ∧ (failCursors s).ape.inWrite = s.ape.inWrite := by
  simp only [failCursors, Port.all, List.foldl]
  simp

@[simp] theorem frontierMoved_keeps (s : State) :
    (frontierMoved s).pending = s.pending ∧ (frontierMoved s).ctl = s.ctl ∧ (frontierMoved s).params = s.params ∧
    (frontierMoved s).ports = s.ports ∧ (frontierMoved s).adu = s.adu ∧ (frontierMoved s).pool = s.pool ∧
    (frontierMoved s).vom = s.vom ∧ (frontierMoved s).scratch = s.scratch ∧
    (frontierMoved s).ejectInhibit = s.ejectInhibit ∧ (frontierMoved s).srt = s.srt ∧ (frontierMoved s).ntu = s.ntu ∧
    (frontierMoved s).choice = s.choice ∧ (frontierMoved s).mpt.link = s.mpt.link ∧
    (frontierMoved s).mpt.timer = s.mpt.timer ∧ (frontierMoved s).mpt.retry = s.mpt.retry ∧
    (frontierMoved s).mpt.nextOp = s.mpt.nextOp ∧ (frontierMoved s).mpt.head = s.mpt.head ∧
    (frontierMoved s).ape.state = s.ape.state ∧ (frontierMoved s).ape.unverified = s.ape.unverified ∧
    (frontierMoved s).ape.inWrite = s.ape.inWrite := by
  simp only [frontierMoved, Port.all, List.foldl]
  (repeat' split) <;> simp

@[simp] theorem wakeStarved_keeps (s : State) :
    (wakeStarved s).pending = s.pending ∧ (wakeStarved s).ctl = s.ctl ∧ (wakeStarved s).params = s.params ∧
    (wakeStarved s).ports = s.ports ∧ (wakeStarved s).adu = s.adu ∧ (wakeStarved s).pool = s.pool ∧
    (wakeStarved s).vom = s.vom ∧ (wakeStarved s).scratch = s.scratch ∧ (wakeStarved s).ejectInhibit = s.ejectInhibit ∧
    (wakeStarved s).srt = s.srt ∧ (wakeStarved s).ntu = s.ntu ∧ (wakeStarved s).mpt.link = s.mpt.link ∧
    (wakeStarved s).mpt.timer = s.mpt.timer ∧ (wakeStarved s).mpt.retry = s.mpt.retry ∧
    (wakeStarved s).mpt.nextOp = s.mpt.nextOp ∧ (wakeStarved s).mpt.head = s.mpt.head ∧
    (wakeStarved s).ape.state = s.ape.state ∧ (wakeStarved s).ape.unverified = s.ape.unverified ∧
    (wakeStarved s).ape.inWrite = s.ape.inWrite := by
  simp only [wakeStarved, portsFrom, List.foldl]
  (repeat' split) <;> simp

@[simp] theorem beginMount_keeps (s : State) :
    (beginMount s).pending = s.pending ∧ (beginMount s).ctl = s.ctl ∧ (beginMount s).params = s.params ∧
    (beginMount s).ports = s.ports ∧ (beginMount s).adu = s.adu ∧ (beginMount s).pool = s.pool ∧
    (beginMount s).scratch = s.scratch ∧ (beginMount s).ejectInhibit = s.ejectInhibit ∧
    (beginMount s).cursors = s.cursors ∧ (beginMount s).srt = s.srt ∧ (beginMount s).ntu = s.ntu ∧
    (beginMount s).choice = s.choice ∧ (beginMount s).mpt.link = s.mpt.link ∧ (beginMount s).mpt.timer = s.mpt.timer ∧
    (beginMount s).mpt.retry = s.mpt.retry ∧ (beginMount s).mpt.nextOp = s.mpt.nextOp ∧
    (beginMount s).mpt.head = s.mpt.head ∧ (beginMount s).ape.state = s.ape.state ∧
    (beginMount s).ape.unverified = s.ape.unverified ∧ (beginMount s).ape.inWrite = s.ape.inWrite ∧
    (beginMount s).vom.cause = s.vom.cause ∧ (beginMount s).vom.serial = s.vom.serial ∧
    (beginMount s).vom.capacity = s.vom.capacity ∧ (beginMount s).vom.appendPoint = s.vom.appendPoint ∧
    (beginMount s).vom.remaining = s.vom.remaining ∧ (beginMount s).vom.level = s.vom.level ∧
    (beginMount s).vom.session = s.vom.session ∧ (beginMount s).vom.frontier = s.vom.frontier ∧
    (beginMount s).vom.frontierSlot = s.vom.frontierSlot ∧ (beginMount s).vom.highestRsn = s.vom.highestRsn ∧
    (beginMount s).vom.lost = s.vom.lost ∧ (beginMount s).vom.unload = s.vom.unload := by
  unfold beginMount
  try dsimp only
  simp

@[simp] theorem volumeGranted_keeps (s : State) :
    (volumeGranted s).pending = s.pending ∧ (volumeGranted s).ctl = s.ctl ∧ (volumeGranted s).params = s.params ∧
    (volumeGranted s).ports = s.ports ∧ (volumeGranted s).adu = s.adu ∧ (volumeGranted s).pool = s.pool ∧
    (volumeGranted s).ape = s.ape ∧ (volumeGranted s).vom = s.vom ∧ (volumeGranted s).scratch = s.scratch ∧
    (volumeGranted s).ejectInhibit = s.ejectInhibit ∧ (volumeGranted s).cursors = s.cursors ∧
    (volumeGranted s).srt = s.srt ∧ (volumeGranted s).ntu = s.ntu ∧ (volumeGranted s).signals = s.signals ∧
    (volumeGranted s).choice = s.choice ∧ (volumeGranted s).mpt.head = s.mpt.head ∧
    (volumeGranted s).mpt.holder = s.mpt.holder ∧ (volumeGranted s).mpt.writes = s.mpt.writes ∧
    (volumeGranted s).mpt.burstLimit = s.mpt.burstLimit ∧ (volumeGranted s).mpt.lastServed = s.mpt.lastServed := by
  unfold volumeGranted
  try dsimp only
  (repeat' split) <;> simp

@[simp] theorem rejectVolume_keeps (r : RejectReason) (s : State) :
    (rejectVolume r s).pending = s.pending ∧ (rejectVolume r s).ctl = s.ctl ∧ (rejectVolume r s).params = s.params ∧
    (rejectVolume r s).adu = s.adu ∧ (rejectVolume r s).pool = s.pool ∧ (rejectVolume r s).scratch = s.scratch ∧
    (rejectVolume r s).ejectInhibit = s.ejectInhibit ∧ (rejectVolume r s).cursors = s.cursors ∧
    (rejectVolume r s).srt = s.srt ∧ (rejectVolume r s).choice = s.choice ∧ (rejectVolume r s).mpt.link = s.mpt.link ∧
    (rejectVolume r s).mpt.timer = s.mpt.timer ∧ (rejectVolume r s).mpt.retry = s.mpt.retry ∧
    (rejectVolume r s).mpt.nextOp = s.mpt.nextOp ∧ (rejectVolume r s).mpt.head = s.mpt.head ∧
    (rejectVolume r s).ape.state = s.ape.state ∧ (rejectVolume r s).ape.unverified = s.ape.unverified ∧
    (rejectVolume r s).ape.inWrite = s.ape.inWrite ∧ (rejectVolume r s).vom.cause = s.vom.cause ∧
    (rejectVolume r s).vom.serial = s.vom.serial ∧ (rejectVolume r s).vom.capacity = s.vom.capacity ∧
    (rejectVolume r s).vom.appendPoint = none ∧ (rejectVolume r s).vom.remaining = s.vom.remaining ∧
    (rejectVolume r s).vom.level = s.vom.level ∧ (rejectVolume r s).vom.session = s.vom.session ∧
    (rejectVolume r s).vom.frontier = s.vom.frontier ∧ (rejectVolume r s).vom.frontierSlot = s.vom.frontierSlot ∧
    (rejectVolume r s).vom.highestRsn = s.vom.highestRsn ∧ (rejectVolume r s).vom.lost = s.vom.lost ∧
    (rejectVolume r s).vom.unload = s.vom.unload := by
  unfold rejectVolume
  try dsimp only
  simp

@[simp] theorem mountDone_keeps (c : Nat) (v : BitVec 64) (m : MediumKind) (s : State) :
    (mountDone c v m s).pending = s.pending ∧ (mountDone c v m s).ctl = s.ctl ∧ (mountDone c v m s).params = s.params ∧
    (mountDone c v m s).adu = s.adu ∧ (mountDone c v m s).pool = s.pool ∧ (mountDone c v m s).scratch = s.scratch ∧
    (mountDone c v m s).ejectInhibit = s.ejectInhibit ∧ (mountDone c v m s).cursors = s.cursors ∧
    (mountDone c v m s).srt = s.srt ∧ (mountDone c v m s).choice = s.choice ∧ (mountDone c v m s).mpt.head = s.mpt.head ∧
    (mountDone c v m s).ape.state = s.ape.state ∧ (mountDone c v m s).ape.unverified = s.ape.unverified ∧
    (mountDone c v m s).ape.inWrite = s.ape.inWrite ∧ (mountDone c v m s).vom.cause = s.vom.cause ∧
    (mountDone c v m s).vom.remaining = s.vom.remaining ∧
    (mountDone c v m s).vom.level = s.vom.level ∧ (mountDone c v m s).vom.session = s.vom.session ∧
    (mountDone c v m s).vom.frontier = s.vom.frontier ∧ (mountDone c v m s).vom.frontierSlot = s.vom.frontierSlot ∧
    (mountDone c v m s).vom.highestRsn = s.vom.highestRsn ∧ (mountDone c v m s).vom.lost = s.vom.lost ∧
    (mountDone c v m s).vom.unload = s.vom.unload := by
  unfold mountDone
  try dsimp only
  (repeat' split) <;> simp

@[simp] theorem mountEmpty_keeps (s : State) :
    (mountEmpty s).pending = s.pending ∧ (mountEmpty s).ctl = s.ctl ∧ (mountEmpty s).params = s.params ∧
    (mountEmpty s).ports = s.ports ∧ (mountEmpty s).adu = s.adu ∧ (mountEmpty s).pool = s.pool ∧
    (mountEmpty s).scratch = s.scratch ∧ (mountEmpty s).ejectInhibit = s.ejectInhibit ∧
    (mountEmpty s).cursors = s.cursors ∧ (mountEmpty s).srt = s.srt ∧ (mountEmpty s).ntu = s.ntu ∧
    (mountEmpty s).choice = s.choice ∧ (mountEmpty s).mpt.link = s.mpt.link ∧ (mountEmpty s).mpt.timer = s.mpt.timer ∧
    (mountEmpty s).mpt.retry = s.mpt.retry ∧ (mountEmpty s).mpt.nextOp = s.mpt.nextOp ∧
    (mountEmpty s).mpt.head = s.mpt.head ∧ (mountEmpty s).ape.state = s.ape.state ∧
    (mountEmpty s).ape.unverified = s.ape.unverified ∧ (mountEmpty s).ape.inWrite = s.ape.inWrite := by
  unfold mountEmpty
  try dsimp only
  simp

@[simp] theorem handLoad_keeps (v : LoadValues) (s : State) :
    (s.handLoad v).pending = s.pending ∧ (s.handLoad v).ctl = s.ctl ∧ (s.handLoad v).params = s.params ∧
    (s.handLoad v).ports = s.ports ∧ (s.handLoad v).mpt = s.mpt ∧ (s.handLoad v).ape = s.ape ∧
    (s.handLoad v).scratch = s.scratch ∧ (s.handLoad v).ejectInhibit = s.ejectInhibit ∧
    (s.handLoad v).cursors = s.cursors ∧ (s.handLoad v).ntu = s.ntu ∧ (s.handLoad v).signals = s.signals ∧
    (s.handLoad v).choice = s.choice ∧ (s.handLoad v).adu.queue = s.adu.queue ∧ (s.handLoad v).adu.clock = s.adu.clock ∧
    (s.handLoad v).pool.free = s.pool.free ∧ (s.handLoad v).pool.opened = s.pool.opened ∧
    (s.handLoad v).pool.sealed = s.pool.sealed ∧ (s.handLoad v).vom.state = s.vom.state ∧
    (s.handLoad v).vom.cause = s.vom.cause ∧ (s.handLoad v).vom.serial = s.vom.serial ∧
    (s.handLoad v).vom.capacity = s.vom.capacity ∧ (s.handLoad v).vom.appendPoint = s.vom.appendPoint ∧
    (s.handLoad v).vom.remaining = s.vom.remaining ∧ (s.handLoad v).vom.level = s.vom.level ∧
    (s.handLoad v).vom.unload = s.vom.unload := by
  simp only [State.handLoad]
  simp

@[simp] theorem startSession_keeps (v : LoadValues) (s : State) :
    (startSession v s).pending = s.pending ∧ (startSession v s).ctl = s.ctl ∧ (startSession v s).params = s.params ∧
    (startSession v s).scratch = s.scratch ∧ (startSession v s).ejectInhibit = s.ejectInhibit ∧
    (startSession v s).cursors = s.cursors ∧ (startSession v s).choice = s.choice ∧
    (startSession v s).adu.queue = s.adu.queue ∧ (startSession v s).adu.clock = s.adu.clock ∧
    (startSession v s).mpt.link = s.mpt.link ∧ (startSession v s).mpt.timer = s.mpt.timer ∧
    (startSession v s).mpt.retry = s.mpt.retry ∧ (startSession v s).mpt.nextOp = s.mpt.nextOp ∧
    (startSession v s).mpt.head = s.mpt.head ∧ (startSession v s).ape.state = s.ape.state ∧
    (startSession v s).ape.unverified = s.ape.unverified ∧ (startSession v s).ape.inWrite = s.ape.inWrite ∧
    (startSession v s).vom.cause = s.vom.cause ∧ (startSession v s).vom.serial = s.vom.serial ∧
    (startSession v s).vom.capacity = s.vom.capacity ∧ (startSession v s).vom.appendPoint = s.vom.appendPoint ∧
    (startSession v s).vom.unload = s.vom.unload := by
  unfold startSession
  try dsimp only
  simp

@[simp] theorem endSearched_keeps (e : Nat) (s : State) :
    (endSearched e s).pending = s.pending ∧ (endSearched e s).ctl = s.ctl ∧ (endSearched e s).params = s.params ∧
    (endSearched e s).ejectInhibit = s.ejectInhibit ∧ (endSearched e s).cursors = s.cursors ∧
    (endSearched e s).choice = s.choice ∧ (endSearched e s).adu.queue = s.adu.queue ∧
    (endSearched e s).adu.clock = s.adu.clock ∧ (endSearched e s).mpt.head = s.mpt.head ∧
    (endSearched e s).ape.state = s.ape.state ∧ (endSearched e s).ape.unverified = s.ape.unverified ∧
    (endSearched e s).ape.inWrite = s.ape.inWrite ∧ (endSearched e s).vom.cause = s.vom.cause ∧
    (endSearched e s).vom.serial = s.vom.serial ∧ (endSearched e s).vom.capacity = s.vom.capacity ∧
    (endSearched e s).vom.unload = s.vom.unload := by
  unfold endSearched
  try dsimp only
  (repeat' split) <;> simp

@[simp] theorem tailSeekDone_keeps (s : State) :
    (tailSeekDone s).pending = s.pending ∧ (tailSeekDone s).ctl = s.ctl ∧ (tailSeekDone s).params = s.params ∧
    (tailSeekDone s).ports = s.ports ∧ (tailSeekDone s).adu = s.adu ∧ (tailSeekDone s).pool = s.pool ∧
    (tailSeekDone s).ape = s.ape ∧ (tailSeekDone s).vom = s.vom ∧ (tailSeekDone s).scratch = s.scratch ∧
    (tailSeekDone s).ejectInhibit = s.ejectInhibit ∧ (tailSeekDone s).cursors = s.cursors ∧
    (tailSeekDone s).srt = s.srt ∧ (tailSeekDone s).ntu = s.ntu ∧ (tailSeekDone s).signals = s.signals ∧
    (tailSeekDone s).choice = s.choice ∧ (tailSeekDone s).mpt.head = s.mpt.head ∧
    (tailSeekDone s).mpt.holder = s.mpt.holder ∧ (tailSeekDone s).mpt.writes = s.mpt.writes ∧
    (tailSeekDone s).mpt.burstLimit = s.mpt.burstLimit ∧ (tailSeekDone s).mpt.lastServed = s.mpt.lastServed := by
  unfold tailSeekDone
  try dsimp only
  (repeat' split) <;> simp

@[simp] theorem decideLoad_keeps (s : State) :
    (decideLoad s).pending = s.pending ∧ (decideLoad s).ctl = s.ctl ∧ (decideLoad s).params = s.params ∧
    (decideLoad s).scratch = s.scratch ∧ (decideLoad s).ejectInhibit = s.ejectInhibit ∧
    (decideLoad s).cursors = s.cursors ∧ (decideLoad s).choice = s.choice ∧ (decideLoad s).adu.queue = s.adu.queue ∧
    (decideLoad s).adu.clock = s.adu.clock ∧ (decideLoad s).mpt.link = s.mpt.link ∧
    (decideLoad s).mpt.timer = s.mpt.timer ∧ (decideLoad s).mpt.retry = s.mpt.retry ∧
    (decideLoad s).mpt.nextOp = s.mpt.nextOp ∧ (decideLoad s).mpt.head = s.mpt.head ∧
    (decideLoad s).ape.state = s.ape.state ∧ (decideLoad s).ape.unverified = s.ape.unverified ∧
    (decideLoad s).ape.inWrite = s.ape.inWrite ∧ (decideLoad s).vom.cause = s.vom.cause ∧
    (decideLoad s).vom.serial = s.vom.serial ∧ (decideLoad s).vom.capacity = s.vom.capacity ∧
    (decideLoad s).vom.unload = s.vom.unload := by
  unfold decideLoad
  try dsimp only
  (repeat' split) <;> simp

@[simp] theorem tailRead_keeps (slot : Nat) (cls : SlotClass) (im : Option (List Byte)) (s : State) :
    (tailRead slot cls im s).pending = s.pending ∧ (tailRead slot cls im s).ctl = s.ctl ∧
    (tailRead slot cls im s).params = s.params ∧ (tailRead slot cls im s).ejectInhibit = s.ejectInhibit ∧
    (tailRead slot cls im s).cursors = s.cursors ∧ (tailRead slot cls im s).choice = s.choice ∧
    (tailRead slot cls im s).adu.queue = s.adu.queue ∧ (tailRead slot cls im s).adu.clock = s.adu.clock ∧
    (tailRead slot cls im s).mpt.head = s.mpt.head ∧ (tailRead slot cls im s).ape.state = s.ape.state ∧
    (tailRead slot cls im s).ape.unverified = s.ape.unverified ∧ (tailRead slot cls im s).ape.inWrite = s.ape.inWrite ∧
    (tailRead slot cls im s).vom.cause = s.vom.cause ∧ (tailRead slot cls im s).vom.serial = s.vom.serial ∧
    (tailRead slot cls im s).vom.capacity = s.vom.capacity ∧
    (tailRead slot cls im s).vom.unload = s.vom.unload := by
  unfold tailRead
  try dsimp only
  (repeat' split) <;> simp

@[simp] theorem clearSession_keeps (s : State) :
    (clearSession s).pending = s.pending ∧ (clearSession s).ctl = s.ctl ∧ (clearSession s).params = s.params ∧
    (clearSession s).ports = s.ports ∧ (clearSession s).mpt = s.mpt ∧ (clearSession s).ape = s.ape ∧
    (clearSession s).vom = s.vom ∧ (clearSession s).scratch = s.scratch ∧
    (clearSession s).ejectInhibit = s.ejectInhibit ∧ (clearSession s).cursors = s.cursors ∧
    (clearSession s).ntu = s.ntu ∧ (clearSession s).signals = s.signals ∧ (clearSession s).choice = s.choice ∧
    (clearSession s).adu.queue = s.adu.queue ∧ (clearSession s).adu.clock = s.adu.clock ∧
    (clearSession s).pool.free = s.pool.free ∧ (clearSession s).pool.opened = s.pool.opened ∧
    (clearSession s).pool.sealed = s.pool.sealed := by
  unfold clearSession
  try dsimp only
  simp

@[simp] theorem volumeLost_keeps (s : State) :
    (volumeLost s).pending = s.pending ∧ (volumeLost s).ctl = s.ctl ∧ (volumeLost s).params = s.params ∧
    (volumeLost s).vom = s.vom ∧ (volumeLost s).scratch = s.scratch ∧ (volumeLost s).ejectInhibit = s.ejectInhibit ∧
    (volumeLost s).choice = s.choice ∧ (volumeLost s).adu.queue = s.adu.queue ∧ (volumeLost s).adu.clock = s.adu.clock ∧
    (volumeLost s).pool.opened = s.pool.opened ∧ (volumeLost s).pool.sealed = s.pool.sealed ∧
    (volumeLost s).mpt.timer = s.mpt.timer ∧ (volumeLost s).mpt.retry = s.mpt.retry ∧
    (volumeLost s).mpt.nextOp = s.mpt.nextOp ∧ (volumeLost s).mpt.head = s.mpt.head ∧
    (volumeLost s).ape.state = s.ape.state ∧ (volumeLost s).ape.unverified = s.ape.unverified ∧
    (volumeLost s).ape.inWrite = s.ape.inWrite := by
  unfold volumeLost
  try dsimp only
  simp

@[simp] theorem answerUnload_keeps (st : Status) (body : ReplyBody) (s : State) :
    (answerUnload st body s).pending = s.pending ∧ (answerUnload st body s).ctl = s.ctl ∧
    (answerUnload st body s).params = s.params ∧ (answerUnload st body s).adu = s.adu ∧
    (answerUnload st body s).pool = s.pool ∧ (answerUnload st body s).mpt = s.mpt ∧
    (answerUnload st body s).ape = s.ape ∧ (answerUnload st body s).vom = s.vom ∧
    (answerUnload st body s).scratch = s.scratch ∧ (answerUnload st body s).ejectInhibit = s.ejectInhibit ∧
    (answerUnload st body s).cursors = s.cursors ∧ (answerUnload st body s).srt = s.srt ∧
    (answerUnload st body s).signals = s.signals ∧ (answerUnload st body s).choice = s.choice := by
  unfold answerUnload
  try dsimp only
  (repeat' split) <;> simp

@[simp] theorem finishEject_keeps (s : State) :
    (finishEject s).pending = s.pending ∧ (finishEject s).ctl = s.ctl ∧ (finishEject s).params = s.params ∧
    (finishEject s).scratch = s.scratch ∧ (finishEject s).ejectInhibit = s.ejectInhibit ∧
    (finishEject s).choice = s.choice ∧ (finishEject s).adu.queue = s.adu.queue ∧
    (finishEject s).adu.clock = s.adu.clock ∧ (finishEject s).pool.opened = s.pool.opened ∧
    (finishEject s).pool.sealed = s.pool.sealed ∧ (finishEject s).mpt.timer = s.mpt.timer ∧
    (finishEject s).mpt.retry = s.mpt.retry ∧ (finishEject s).mpt.nextOp = s.mpt.nextOp ∧
    (finishEject s).mpt.head = s.mpt.head ∧ (finishEject s).ape.state = s.ape.state ∧
    (finishEject s).ape.unverified = s.ape.unverified ∧ (finishEject s).ape.inWrite = s.ape.inWrite := by
  unfold finishEject
  try dsimp only
  (repeat' split) <;> simp

@[simp] theorem removeLoaded_keeps (s : State) :
    (removeLoaded s).pending = s.pending ∧ (removeLoaded s).ctl = s.ctl ∧ (removeLoaded s).params = s.params ∧
    (removeLoaded s).scratch = s.scratch ∧ (removeLoaded s).ejectInhibit = s.ejectInhibit ∧
    (removeLoaded s).choice = s.choice ∧ (removeLoaded s).adu.clock = s.adu.clock ∧
    (removeLoaded s).mpt.timer = s.mpt.timer ∧ (removeLoaded s).mpt.retry = s.mpt.retry ∧
    (removeLoaded s).mpt.nextOp = s.mpt.nextOp ∧ (removeLoaded s).mpt.head = s.mpt.head := by
  unfold removeLoaded
  try dsimp only
  simp

@[simp] theorem volumeRemoved_keeps (s : State) :
    (volumeRemoved s).pending = s.pending ∧ (volumeRemoved s).ctl = s.ctl ∧ (volumeRemoved s).params = s.params ∧
    (volumeRemoved s).scratch = s.scratch ∧ (volumeRemoved s).ejectInhibit = s.ejectInhibit ∧
    (volumeRemoved s).choice = s.choice ∧ (volumeRemoved s).adu.clock = s.adu.clock ∧
    (volumeRemoved s).mpt.timer = s.mpt.timer ∧ (volumeRemoved s).mpt.retry = s.mpt.retry ∧
    (volumeRemoved s).mpt.nextOp = s.mpt.nextOp ∧ (volumeRemoved s).mpt.head = s.mpt.head := by
  unfold volumeRemoved
  try dsimp only
  (repeat' split) <;> simp

@[simp] theorem driveFaulted_keeps (s : State) :
    (driveFaulted s).pending = s.pending ∧ (driveFaulted s).ctl = s.ctl ∧ (driveFaulted s).params = s.params ∧
    (driveFaulted s).scratch = s.scratch ∧ (driveFaulted s).ejectInhibit = s.ejectInhibit ∧
    (driveFaulted s).choice = s.choice ∧ (driveFaulted s).adu.clock = s.adu.clock ∧
    (driveFaulted s).mpt.timer = s.mpt.timer ∧ (driveFaulted s).mpt.retry = s.mpt.retry ∧
    (driveFaulted s).mpt.nextOp = s.mpt.nextOp ∧ (driveFaulted s).mpt.head = s.mpt.head := by
  unfold driveFaulted
  try dsimp only
  (repeat' split) <;> simp

@[simp] theorem volumeDriveFault_keeps (s : State) :
    (volumeDriveFault s).pending = s.pending ∧ (volumeDriveFault s).ctl = s.ctl ∧
    (volumeDriveFault s).params = s.params ∧ (volumeDriveFault s).scratch = s.scratch ∧
    (volumeDriveFault s).ejectInhibit = s.ejectInhibit ∧ (volumeDriveFault s).choice = s.choice ∧
    (volumeDriveFault s).adu.clock = s.adu.clock ∧ (volumeDriveFault s).mpt.timer = s.mpt.timer ∧
    (volumeDriveFault s).mpt.retry = s.mpt.retry ∧ (volumeDriveFault s).mpt.nextOp = s.mpt.nextOp ∧
    (volumeDriveFault s).mpt.head = s.mpt.head := by
  unfold volumeDriveFault
  try dsimp only
  (repeat' split) <;> simp

@[simp] theorem freeAbandoned_keeps (s : State) :
    (freeAbandoned s).pending = s.pending ∧ (freeAbandoned s).ctl = s.ctl ∧ (freeAbandoned s).params = s.params ∧
    (freeAbandoned s).ports = s.ports ∧ (freeAbandoned s).adu = s.adu ∧ (freeAbandoned s).mpt = s.mpt ∧
    (freeAbandoned s).ape = s.ape ∧ (freeAbandoned s).vom = s.vom ∧ (freeAbandoned s).scratch = s.scratch ∧
    (freeAbandoned s).ejectInhibit = s.ejectInhibit ∧ (freeAbandoned s).cursors = s.cursors ∧
    (freeAbandoned s).srt = s.srt ∧ (freeAbandoned s).ntu = s.ntu ∧ (freeAbandoned s).choice = s.choice ∧
    (freeAbandoned s).pool.opened = s.pool.opened ∧ (freeAbandoned s).pool.sealed = s.pool.sealed ∧
    (freeAbandoned s).pool.nextBsn = s.pool.nextBsn := by
  unfold freeAbandoned
  try dsimp only
  (repeat' split) <;> simp

@[simp] theorem clearDrive_keeps (s : State) :
    (clearDrive s).pending = s.pending ∧ (clearDrive s).ctl = s.ctl ∧ (clearDrive s).params = s.params ∧
    (clearDrive s).ports = s.ports ∧ (clearDrive s).adu = s.adu ∧ (clearDrive s).vom = s.vom ∧
    (clearDrive s).scratch = s.scratch ∧ (clearDrive s).ejectInhibit = s.ejectInhibit ∧
    (clearDrive s).cursors = s.cursors ∧ (clearDrive s).srt = s.srt ∧ (clearDrive s).ntu = s.ntu ∧
    (clearDrive s).choice = s.choice ∧ (clearDrive s).pool.opened = s.pool.opened ∧
    (clearDrive s).pool.sealed = s.pool.sealed ∧ (clearDrive s).pool.nextBsn = s.pool.nextBsn ∧
    (clearDrive s).mpt.nextOp = s.mpt.nextOp ∧ (clearDrive s).mpt.burstLimit = s.mpt.burstLimit ∧
    (clearDrive s).mpt.lastServed = s.mpt.lastServed ∧ (clearDrive s).ape.state = s.ape.state ∧
    (clearDrive s).ape.unverified = s.ape.unverified ∧ (clearDrive s).ape.inWrite = s.ape.inWrite := by
  unfold clearDrive
  try dsimp only
  simp

@[simp] theorem cartridgeRemoved_keeps (s : State) :
    (cartridgeRemoved s).pending = s.pending ∧ (cartridgeRemoved s).ctl = s.ctl ∧
    (cartridgeRemoved s).params = s.params ∧ (cartridgeRemoved s).scratch = s.scratch ∧
    (cartridgeRemoved s).ejectInhibit = s.ejectInhibit ∧ (cartridgeRemoved s).choice = s.choice ∧
    (cartridgeRemoved s).adu.clock = s.adu.clock ∧ (cartridgeRemoved s).mpt.nextOp = s.mpt.nextOp := by
  unfold cartridgeRemoved
  try dsimp only
  simp

@[simp] theorem driveFaultEvent_keeps (s : State) :
    (driveFaultEvent s).pending = s.pending ∧ (driveFaultEvent s).ctl = s.ctl ∧ (driveFaultEvent s).params = s.params ∧
    (driveFaultEvent s).scratch = s.scratch ∧ (driveFaultEvent s).ejectInhibit = s.ejectInhibit ∧
    (driveFaultEvent s).choice = s.choice ∧ (driveFaultEvent s).adu.clock = s.adu.clock ∧
    (driveFaultEvent s).mpt.nextOp = s.mpt.nextOp := by
  unfold driveFaultEvent
  try dsimp only
  simp

@[simp] theorem beginDrain_keeps (s : State) :
    (beginDrain s).pending = s.pending ∧ (beginDrain s).ctl = s.ctl ∧ (beginDrain s).params = s.params ∧
    (beginDrain s).mpt = s.mpt ∧ (beginDrain s).ape = s.ape ∧ (beginDrain s).scratch = s.scratch ∧
    (beginDrain s).ejectInhibit = s.ejectInhibit ∧ (beginDrain s).cursors = s.cursors ∧ (beginDrain s).srt = s.srt ∧
    (beginDrain s).choice = s.choice ∧ (beginDrain s).adu.nextRsn = s.adu.nextRsn ∧
    (beginDrain s).adu.clock = s.adu.clock ∧ (beginDrain s).pool.free = s.pool.free ∧
    (beginDrain s).vom.cause = s.vom.cause ∧ (beginDrain s).vom.serial = s.vom.serial ∧
    (beginDrain s).vom.capacity = s.vom.capacity ∧ (beginDrain s).vom.appendPoint = s.vom.appendPoint ∧
    (beginDrain s).vom.session = s.vom.session ∧ (beginDrain s).vom.frontier = s.vom.frontier ∧
    (beginDrain s).vom.frontierSlot = s.vom.frontierSlot ∧ (beginDrain s).vom.highestRsn = s.vom.highestRsn ∧
    (beginDrain s).vom.lost = s.vom.lost ∧ (beginDrain s).vom.unload = s.vom.unload := by
  unfold beginDrain
  try dsimp only
  simp

@[simp] theorem unload_keeps (p : Port) (t : Tag) (s : State) :
    (unload p t s).pending = s.pending ∧ (unload p t s).ctl = s.ctl ∧ (unload p t s).params = s.params ∧
    (unload p t s).scratch = s.scratch ∧ (unload p t s).ejectInhibit = s.ejectInhibit ∧
    (unload p t s).cursors = s.cursors ∧ (unload p t s).choice = s.choice ∧ (unload p t s).adu.nextRsn = s.adu.nextRsn ∧
    (unload p t s).adu.clock = s.adu.clock ∧ (unload p t s).pool.free = s.pool.free ∧
    (unload p t s).mpt.link = s.mpt.link ∧ (unload p t s).mpt.timer = s.mpt.timer ∧
    (unload p t s).mpt.retry = s.mpt.retry ∧ (unload p t s).mpt.nextOp = s.mpt.nextOp ∧
    (unload p t s).mpt.head = s.mpt.head ∧ (unload p t s).ape.state = s.ape.state ∧
    (unload p t s).ape.unverified = s.ape.unverified ∧ (unload p t s).ape.inWrite = s.ape.inWrite ∧
    (unload p t s).vom.cause = s.vom.cause ∧ (unload p t s).vom.serial = s.vom.serial ∧
    (unload p t s).vom.capacity = s.vom.capacity ∧ (unload p t s).vom.appendPoint = s.vom.appendPoint ∧
    (unload p t s).vom.session = s.vom.session ∧ (unload p t s).vom.frontier = s.vom.frontier ∧
    (unload p t s).vom.frontierSlot = s.vom.frontierSlot ∧ (unload p t s).vom.highestRsn = s.vom.highestRsn ∧
    (unload p t s).vom.lost = s.vom.lost := by
  unfold unload
  try dsimp only
  (repeat' split) <;> simp

@[simp] theorem releaseClaims_keeps (p : Port) (s : State) :
    (releaseClaims p s).pending = s.pending ∧ (releaseClaims p s).ctl = s.ctl ∧ (releaseClaims p s).params = s.params ∧
    (releaseClaims p s).ports = s.ports ∧ (releaseClaims p s).adu = s.adu ∧ (releaseClaims p s).pool = s.pool ∧
    (releaseClaims p s).mpt = s.mpt ∧ (releaseClaims p s).ape = s.ape ∧ (releaseClaims p s).vom = s.vom ∧
    (releaseClaims p s).scratch = s.scratch ∧ (releaseClaims p s).ejectInhibit = s.ejectInhibit ∧
    (releaseClaims p s).cursors = s.cursors ∧ (releaseClaims p s).ntu = s.ntu ∧ (releaseClaims p s).signals = s.signals ∧
    (releaseClaims p s).choice = s.choice := by
  unfold releaseClaims
  try dsimp only
  simp

@[simp] theorem wakeBoth_keeps (s : State) :
    (wakeBoth s).pending = s.pending ∧ (wakeBoth s).ctl = s.ctl ∧ (wakeBoth s).params = s.params ∧
    (wakeBoth s).ports = s.ports ∧ (wakeBoth s).adu = s.adu ∧ (wakeBoth s).pool = s.pool ∧ (wakeBoth s).mpt = s.mpt ∧
    (wakeBoth s).ape = s.ape ∧ (wakeBoth s).vom = s.vom ∧ (wakeBoth s).scratch = s.scratch ∧
    (wakeBoth s).ejectInhibit = s.ejectInhibit ∧ (wakeBoth s).cursors = s.cursors ∧ (wakeBoth s).srt = s.srt ∧
    (wakeBoth s).ntu = s.ntu := by
  unfold wakeBoth
  try dsimp only
  (repeat' split) <;> simp

@[simp] theorem handle_keeps (g : Signal) (s : State) :
    (handle g s).pending = s.pending ∧ (handle g s).ctl = s.ctl ∧ (handle g s).params = s.params ∧
    (handle g s).scratch = s.scratch ∧ (handle g s).ejectInhibit = s.ejectInhibit ∧ (handle g s).mpt.head = s.mpt.head ∧
    (handle g s).vom.serial = s.vom.serial ∧ (handle g s).vom.capacity = s.vom.capacity ∧
    (handle g s).vom.session = s.vom.session ∧ (handle g s).vom.frontier = s.vom.frontier ∧
    (handle g s).vom.frontierSlot = s.vom.frontierSlot ∧ (handle g s).vom.highestRsn = s.vom.highestRsn := by
  cases g
  case granted c => cases c <;> simp [handle]
  all_goals simp [handle]

@[simp] theorem settleOne_keeps (g : Signal) (rest : List Signal) (s : State) :
    (settleOne g rest s).pending = s.pending ∧ (settleOne g rest s).ctl = s.ctl ∧
    (settleOne g rest s).params = s.params ∧ (settleOne g rest s).scratch = s.scratch ∧
    (settleOne g rest s).ejectInhibit = s.ejectInhibit ∧ (settleOne g rest s).mpt.head = s.mpt.head ∧
    (settleOne g rest s).vom.serial = s.vom.serial ∧ (settleOne g rest s).vom.capacity = s.vom.capacity ∧
    (settleOne g rest s).vom.session = s.vom.session ∧ (settleOne g rest s).vom.frontier = s.vom.frontier ∧
    (settleOne g rest s).vom.frontierSlot = s.vom.frontierSlot ∧
    (settleOne g rest s).vom.highestRsn = s.vom.highestRsn := by
  unfold settleOne
  try dsimp only
  simp

@[simp] theorem settle_keeps (n : Nat) (s : State) :
    (settle n s).pending = s.pending ∧ (settle n s).ctl = s.ctl ∧ (settle n s).params = s.params ∧
    (settle n s).scratch = s.scratch ∧ (settle n s).ejectInhibit = s.ejectInhibit ∧ (settle n s).mpt.head = s.mpt.head ∧
    (settle n s).vom.serial = s.vom.serial ∧ (settle n s).vom.capacity = s.vom.capacity ∧
    (settle n s).vom.session = s.vom.session ∧ (settle n s).vom.frontier = s.vom.frontier ∧
    (settle n s).vom.frontierSlot = s.vom.frontierSlot ∧ (settle n s).vom.highestRsn = s.vom.highestRsn := by
  induction n generalizing s with
  | zero => simp [settle]
  | succ n ih =>
    unfold settle
    split <;> simp [ih]

@[simp] theorem hear_keeps (p : Port) (s : State) :
    (hear p s).pending = s.pending ∧ (hear p s).ctl = s.ctl ∧ (hear p s).params = s.params ∧ (hear p s).adu = s.adu ∧
    (hear p s).pool = s.pool ∧ (hear p s).mpt = s.mpt ∧ (hear p s).ape = s.ape ∧ (hear p s).vom = s.vom ∧
    (hear p s).scratch = s.scratch ∧ (hear p s).ejectInhibit = s.ejectInhibit ∧ (hear p s).cursors = s.cursors ∧
    (hear p s).srt = s.srt ∧ (hear p s).signals = s.signals ∧ (hear p s).choice = s.choice := by
  unfold hear
  try dsimp only
  simp

@[simp] theorem frameSent_keeps (p : Port) (s : State) :
    (frameSent p s).pending = s.pending ∧ (frameSent p s).ctl = s.ctl ∧ (frameSent p s).params = s.params ∧
    (frameSent p s).adu = s.adu ∧ (frameSent p s).pool = s.pool ∧ (frameSent p s).mpt = s.mpt ∧
    (frameSent p s).ape = s.ape ∧ (frameSent p s).vom = s.vom ∧ (frameSent p s).scratch = s.scratch ∧
    (frameSent p s).ejectInhibit = s.ejectInhibit ∧ (frameSent p s).cursors = s.cursors ∧ (frameSent p s).srt = s.srt ∧
    (frameSent p s).signals = s.signals ∧ (frameSent p s).choice = s.choice := by
  unfold frameSent
  try dsimp only
  (repeat' split) <;> simp

@[simp] theorem resetNotices_keeps (p : Port) (s : State) :
    (resetNotices p s).pending = s.pending ∧ (resetNotices p s).ctl = s.ctl ∧ (resetNotices p s).params = s.params ∧
    (resetNotices p s).adu = s.adu ∧ (resetNotices p s).pool = s.pool ∧ (resetNotices p s).mpt = s.mpt ∧
    (resetNotices p s).ape = s.ape ∧ (resetNotices p s).vom = s.vom ∧ (resetNotices p s).scratch = s.scratch ∧
    (resetNotices p s).ejectInhibit = s.ejectInhibit ∧ (resetNotices p s).cursors = s.cursors ∧
    (resetNotices p s).srt = s.srt ∧ (resetNotices p s).signals = s.signals ∧ (resetNotices p s).choice = s.choice := by
  unfold resetNotices
  try dsimp only
  simp

@[simp] theorem disownUnload_keeps (p : Port) (s : State) :
    (disownUnload p s).pending = s.pending ∧ (disownUnload p s).ctl = s.ctl ∧ (disownUnload p s).params = s.params ∧
    (disownUnload p s).ports = s.ports ∧ (disownUnload p s).adu = s.adu ∧ (disownUnload p s).pool = s.pool ∧
    (disownUnload p s).mpt = s.mpt ∧ (disownUnload p s).ape = s.ape ∧ (disownUnload p s).scratch = s.scratch ∧
    (disownUnload p s).ejectInhibit = s.ejectInhibit ∧ (disownUnload p s).cursors = s.cursors ∧
    (disownUnload p s).srt = s.srt ∧ (disownUnload p s).ntu = s.ntu ∧ (disownUnload p s).signals = s.signals ∧
    (disownUnload p s).choice = s.choice ∧ (disownUnload p s).vom.state = s.vom.state ∧
    (disownUnload p s).vom.cause = s.vom.cause ∧ (disownUnload p s).vom.serial = s.vom.serial ∧
    (disownUnload p s).vom.capacity = s.vom.capacity ∧ (disownUnload p s).vom.appendPoint = s.vom.appendPoint ∧
    (disownUnload p s).vom.remaining = s.vom.remaining ∧ (disownUnload p s).vom.level = s.vom.level ∧
    (disownUnload p s).vom.session = s.vom.session ∧ (disownUnload p s).vom.frontier = s.vom.frontier ∧
    (disownUnload p s).vom.frontierSlot = s.vom.frontierSlot ∧ (disownUnload p s).vom.highestRsn = s.vom.highestRsn ∧
    (disownUnload p s).vom.lost = s.vom.lost := by
  unfold disownUnload
  try dsimp only
  simp

@[simp] theorem portReset_keeps (p : Port) (s : State) :
    (portReset p s).pending = s.pending ∧ (portReset p s).ctl = s.ctl ∧ (portReset p s).params = s.params ∧
    (portReset p s).scratch = s.scratch ∧ (portReset p s).ejectInhibit = s.ejectInhibit ∧
    (portReset p s).adu.nextRsn = s.adu.nextRsn ∧ (portReset p s).adu.clock = s.adu.clock ∧
    (portReset p s).pool.opened = s.pool.opened ∧ (portReset p s).pool.nextBsn = s.pool.nextBsn ∧
    (portReset p s).mpt.timer = s.mpt.timer ∧ (portReset p s).mpt.retry = s.mpt.retry ∧
    (portReset p s).mpt.nextOp = s.mpt.nextOp ∧ (portReset p s).mpt.head = s.mpt.head ∧
    (portReset p s).ape.state = s.ape.state ∧ (portReset p s).vom.state = s.vom.state ∧
    (portReset p s).vom.cause = s.vom.cause ∧ (portReset p s).vom.serial = s.vom.serial ∧
    (portReset p s).vom.capacity = s.vom.capacity ∧ (portReset p s).vom.appendPoint = s.vom.appendPoint ∧
    (portReset p s).vom.remaining = s.vom.remaining ∧ (portReset p s).vom.level = s.vom.level ∧
    (portReset p s).vom.session = s.vom.session ∧ (portReset p s).vom.frontier = s.vom.frontier ∧
    (portReset p s).vom.frontierSlot = s.vom.frontierSlot ∧ (portReset p s).vom.highestRsn = s.vom.highestRsn ∧
    (portReset p s).vom.lost = s.vom.lost := by
  unfold portReset
  try dsimp only
  (repeat' split) <;> simp

@[simp] theorem badFrame_keeps (p : Port) (s : State) :
    (badFrame p s).pending = s.pending ∧ (badFrame p s).ctl = s.ctl ∧ (badFrame p s).params = s.params ∧
    (badFrame p s).scratch = s.scratch ∧ (badFrame p s).ejectInhibit = s.ejectInhibit ∧
    (badFrame p s).adu.nextRsn = s.adu.nextRsn ∧ (badFrame p s).adu.clock = s.adu.clock ∧
    (badFrame p s).pool.opened = s.pool.opened ∧ (badFrame p s).pool.nextBsn = s.pool.nextBsn ∧
    (badFrame p s).mpt.timer = s.mpt.timer ∧ (badFrame p s).mpt.retry = s.mpt.retry ∧
    (badFrame p s).mpt.nextOp = s.mpt.nextOp ∧ (badFrame p s).mpt.head = s.mpt.head ∧
    (badFrame p s).ape.state = s.ape.state ∧ (badFrame p s).vom.state = s.vom.state ∧
    (badFrame p s).vom.cause = s.vom.cause ∧ (badFrame p s).vom.serial = s.vom.serial ∧
    (badFrame p s).vom.capacity = s.vom.capacity ∧ (badFrame p s).vom.appendPoint = s.vom.appendPoint ∧
    (badFrame p s).vom.remaining = s.vom.remaining ∧ (badFrame p s).vom.level = s.vom.level ∧
    (badFrame p s).vom.session = s.vom.session ∧ (badFrame p s).vom.frontier = s.vom.frontier ∧
    (badFrame p s).vom.frontierSlot = s.vom.frontierSlot ∧ (badFrame p s).vom.highestRsn = s.vom.highestRsn ∧
    (badFrame p s).vom.lost = s.vom.lost := by
  unfold badFrame
  try dsimp only
  (repeat' split) <;> simp

@[simp] theorem linkLost_keeps (p : Port) (s : State) :
    (linkLost p s).pending = s.pending ∧ (linkLost p s).ctl = s.ctl ∧ (linkLost p s).params = s.params ∧
    (linkLost p s).scratch = s.scratch ∧ (linkLost p s).ejectInhibit = s.ejectInhibit ∧
    (linkLost p s).adu.nextRsn = s.adu.nextRsn ∧ (linkLost p s).adu.clock = s.adu.clock ∧
    (linkLost p s).pool.opened = s.pool.opened ∧ (linkLost p s).pool.nextBsn = s.pool.nextBsn ∧
    (linkLost p s).mpt.timer = s.mpt.timer ∧ (linkLost p s).mpt.retry = s.mpt.retry ∧
    (linkLost p s).mpt.nextOp = s.mpt.nextOp ∧ (linkLost p s).mpt.head = s.mpt.head ∧
    (linkLost p s).ape.state = s.ape.state ∧ (linkLost p s).vom.state = s.vom.state ∧
    (linkLost p s).vom.cause = s.vom.cause ∧ (linkLost p s).vom.serial = s.vom.serial ∧
    (linkLost p s).vom.capacity = s.vom.capacity ∧ (linkLost p s).vom.appendPoint = s.vom.appendPoint ∧
    (linkLost p s).vom.remaining = s.vom.remaining ∧ (linkLost p s).vom.level = s.vom.level ∧
    (linkLost p s).vom.session = s.vom.session ∧ (linkLost p s).vom.frontier = s.vom.frontier ∧
    (linkLost p s).vom.frontierSlot = s.vom.frontierSlot ∧ (linkLost p s).vom.highestRsn = s.vom.highestRsn ∧
    (linkLost p s).vom.lost = s.vom.lost := by
  unfold linkLost
  try dsimp only
  (repeat' split) <;> simp

@[simp] theorem goodFrame_keeps (p : Port) (s : State) :
    (goodFrame p s).pending = s.pending ∧ (goodFrame p s).ctl = s.ctl ∧ (goodFrame p s).params = s.params ∧
    (goodFrame p s).adu = s.adu ∧ (goodFrame p s).pool = s.pool ∧ (goodFrame p s).mpt = s.mpt ∧
    (goodFrame p s).ape = s.ape ∧ (goodFrame p s).vom = s.vom ∧ (goodFrame p s).scratch = s.scratch ∧
    (goodFrame p s).ejectInhibit = s.ejectInhibit ∧ (goodFrame p s).cursors = s.cursors ∧ (goodFrame p s).srt = s.srt ∧
    (goodFrame p s).ntu = s.ntu ∧ (goodFrame p s).signals = s.signals ∧ (goodFrame p s).choice = s.choice := by
  unfold goodFrame
  try dsimp only
  simp

@[simp] theorem reserveStream_keeps (p : Port) (t : Tag) (x : StreamId) (s : State) :
    (reserveStream p t x s).pending = s.pending ∧ (reserveStream p t x s).ctl = s.ctl ∧
    (reserveStream p t x s).params = s.params ∧ (reserveStream p t x s).adu = s.adu ∧
    (reserveStream p t x s).pool = s.pool ∧ (reserveStream p t x s).mpt = s.mpt ∧ (reserveStream p t x s).ape = s.ape ∧
    (reserveStream p t x s).vom = s.vom ∧ (reserveStream p t x s).scratch = s.scratch ∧
    (reserveStream p t x s).ejectInhibit = s.ejectInhibit ∧ (reserveStream p t x s).cursors = s.cursors ∧
    (reserveStream p t x s).signals = s.signals ∧ (reserveStream p t x s).choice = s.choice := by
  unfold reserveStream
  try dsimp only
  (repeat' split) <;> simp

@[simp] theorem reserveVolume_keeps (p : Port) (t : Tag) (s : State) :
    (reserveVolume p t s).pending = s.pending ∧ (reserveVolume p t s).ctl = s.ctl ∧
    (reserveVolume p t s).params = s.params ∧ (reserveVolume p t s).adu = s.adu ∧ (reserveVolume p t s).pool = s.pool ∧
    (reserveVolume p t s).mpt = s.mpt ∧ (reserveVolume p t s).ape = s.ape ∧ (reserveVolume p t s).vom = s.vom ∧
    (reserveVolume p t s).scratch = s.scratch ∧ (reserveVolume p t s).ejectInhibit = s.ejectInhibit ∧
    (reserveVolume p t s).cursors = s.cursors ∧ (reserveVolume p t s).signals = s.signals ∧
    (reserveVolume p t s).choice = s.choice ∧ (reserveVolume p t s).srt.streams = s.srt.streams ∧
    (reserveVolume p t s).srt.locks = s.srt.locks := by
  unfold reserveVolume
  try dsimp only
  (repeat' split) <;> simp

@[simp] theorem releaseStream_keeps (p : Port) (t : Tag) (x : StreamId) (s : State) :
    (releaseStream p t x s).pending = s.pending ∧ (releaseStream p t x s).ctl = s.ctl ∧
    (releaseStream p t x s).params = s.params ∧ (releaseStream p t x s).adu = s.adu ∧
    (releaseStream p t x s).pool = s.pool ∧ (releaseStream p t x s).mpt = s.mpt ∧ (releaseStream p t x s).ape = s.ape ∧
    (releaseStream p t x s).vom = s.vom ∧ (releaseStream p t x s).scratch = s.scratch ∧
    (releaseStream p t x s).ejectInhibit = s.ejectInhibit ∧ (releaseStream p t x s).cursors = s.cursors ∧
    (releaseStream p t x s).signals = s.signals ∧ (releaseStream p t x s).choice = s.choice := by
  unfold releaseStream
  try dsimp only
  (repeat' split) <;> simp

@[simp] theorem releaseVolume_keeps (p : Port) (t : Tag) (s : State) :
    (releaseVolume p t s).pending = s.pending ∧ (releaseVolume p t s).ctl = s.ctl ∧
    (releaseVolume p t s).params = s.params ∧ (releaseVolume p t s).adu = s.adu ∧ (releaseVolume p t s).pool = s.pool ∧
    (releaseVolume p t s).mpt = s.mpt ∧ (releaseVolume p t s).ape = s.ape ∧ (releaseVolume p t s).vom = s.vom ∧
    (releaseVolume p t s).scratch = s.scratch ∧ (releaseVolume p t s).ejectInhibit = s.ejectInhibit ∧
    (releaseVolume p t s).cursors = s.cursors ∧ (releaseVolume p t s).signals = s.signals ∧
    (releaseVolume p t s).choice = s.choice ∧ (releaseVolume p t s).srt.streams = s.srt.streams ∧
    (releaseVolume p t s).srt.locks = s.srt.locks := by
  unfold releaseVolume
  try dsimp only
  (repeat' split) <;> simp

@[simp] theorem lockRemoval_keeps (p : Port) (t : Tag) (s : State) :
    (lockRemoval p t s).pending = s.pending ∧ (lockRemoval p t s).ctl = s.ctl ∧ (lockRemoval p t s).params = s.params ∧
    (lockRemoval p t s).adu = s.adu ∧ (lockRemoval p t s).pool = s.pool ∧ (lockRemoval p t s).mpt = s.mpt ∧
    (lockRemoval p t s).ape = s.ape ∧ (lockRemoval p t s).vom = s.vom ∧ (lockRemoval p t s).scratch = s.scratch ∧
    (lockRemoval p t s).ejectInhibit = s.ejectInhibit ∧ (lockRemoval p t s).cursors = s.cursors ∧
    (lockRemoval p t s).signals = s.signals ∧ (lockRemoval p t s).choice = s.choice ∧
    (lockRemoval p t s).srt.streams = s.srt.streams ∧ (lockRemoval p t s).srt.volume = s.srt.volume := by
  unfold lockRemoval
  try dsimp only
  (repeat' split) <;> simp

@[simp] theorem unlockRemoval_keeps (p : Port) (t : Tag) (s : State) :
    (unlockRemoval p t s).pending = s.pending ∧ (unlockRemoval p t s).ctl = s.ctl ∧
    (unlockRemoval p t s).params = s.params ∧ (unlockRemoval p t s).adu = s.adu ∧ (unlockRemoval p t s).pool = s.pool ∧
    (unlockRemoval p t s).mpt = s.mpt ∧ (unlockRemoval p t s).ape = s.ape ∧ (unlockRemoval p t s).vom = s.vom ∧
    (unlockRemoval p t s).scratch = s.scratch ∧ (unlockRemoval p t s).ejectInhibit = s.ejectInhibit ∧
    (unlockRemoval p t s).cursors = s.cursors ∧ (unlockRemoval p t s).signals = s.signals ∧
    (unlockRemoval p t s).choice = s.choice := by
  unfold unlockRemoval
  try dsimp only
  simp

@[simp] theorem applyParams_keeps (l : List (Nat × Nat)) (s : State) :
    (applyParams l s).pending = s.pending ∧ (applyParams l s).ctl = s.ctl ∧ (applyParams l s).adu = s.adu ∧
    (applyParams l s).pool = s.pool ∧ (applyParams l s).scratch = s.scratch ∧
    (applyParams l s).ejectInhibit = s.ejectInhibit ∧ (applyParams l s).srt = s.srt ∧
    (applyParams l s).mpt.link = s.mpt.link ∧ (applyParams l s).mpt.timer = s.mpt.timer ∧
    (applyParams l s).mpt.retry = s.mpt.retry ∧ (applyParams l s).mpt.nextOp = s.mpt.nextOp ∧
    (applyParams l s).mpt.head = s.mpt.head ∧ (applyParams l s).ape.state = s.ape.state ∧
    (applyParams l s).ape.unverified = s.ape.unverified ∧ (applyParams l s).ape.inWrite = s.ape.inWrite ∧
    (applyParams l s).vom.state = s.vom.state ∧ (applyParams l s).vom.cause = s.vom.cause ∧
    (applyParams l s).vom.serial = s.vom.serial ∧ (applyParams l s).vom.capacity = s.vom.capacity ∧
    (applyParams l s).vom.appendPoint = s.vom.appendPoint ∧ (applyParams l s).vom.remaining = s.vom.remaining ∧
    (applyParams l s).vom.session = s.vom.session ∧ (applyParams l s).vom.frontier = s.vom.frontier ∧
    (applyParams l s).vom.frontierSlot = s.vom.frontierSlot ∧ (applyParams l s).vom.highestRsn = s.vom.highestRsn ∧
    (applyParams l s).vom.lost = s.vom.lost ∧ (applyParams l s).vom.unload = s.vom.unload := by
  unfold applyParams
  try dsimp only
  (repeat' split) <;> simp

@[simp] theorem setParameters_keeps (p : Port) (t : Tag) (l : List (Nat × Nat)) (s : State) :
    (setParameters p t l s).pending = s.pending ∧ (setParameters p t l s).ctl = s.ctl ∧
    (setParameters p t l s).adu = s.adu ∧ (setParameters p t l s).pool = s.pool ∧
    (setParameters p t l s).scratch = s.scratch ∧ (setParameters p t l s).ejectInhibit = s.ejectInhibit ∧
    (setParameters p t l s).srt = s.srt ∧ (setParameters p t l s).mpt.link = s.mpt.link ∧
    (setParameters p t l s).mpt.timer = s.mpt.timer ∧ (setParameters p t l s).mpt.retry = s.mpt.retry ∧
    (setParameters p t l s).mpt.nextOp = s.mpt.nextOp ∧ (setParameters p t l s).mpt.head = s.mpt.head ∧
    (setParameters p t l s).ape.state = s.ape.state ∧ (setParameters p t l s).ape.unverified = s.ape.unverified ∧
    (setParameters p t l s).ape.inWrite = s.ape.inWrite ∧ (setParameters p t l s).vom.state = s.vom.state ∧
    (setParameters p t l s).vom.cause = s.vom.cause ∧ (setParameters p t l s).vom.serial = s.vom.serial ∧
    (setParameters p t l s).vom.capacity = s.vom.capacity ∧ (setParameters p t l s).vom.appendPoint = s.vom.appendPoint ∧
    (setParameters p t l s).vom.remaining = s.vom.remaining ∧ (setParameters p t l s).vom.session = s.vom.session ∧
    (setParameters p t l s).vom.frontier = s.vom.frontier ∧
    (setParameters p t l s).vom.frontierSlot = s.vom.frontierSlot ∧
    (setParameters p t l s).vom.highestRsn = s.vom.highestRsn ∧ (setParameters p t l s).vom.lost = s.vom.lost ∧
    (setParameters p t l s).vom.unload = s.vom.unload := by
  unfold setParameters
  try dsimp only
  (repeat' split) <;> simp

@[simp] theorem ackNotice_keeps (p : Port) (t : Tag) (k : BitVec 16) (s : State) :
    (ackNotice p t k s).pending = s.pending ∧ (ackNotice p t k s).ctl = s.ctl ∧ (ackNotice p t k s).params = s.params ∧
    (ackNotice p t k s).adu = s.adu ∧ (ackNotice p t k s).pool = s.pool ∧ (ackNotice p t k s).mpt = s.mpt ∧
    (ackNotice p t k s).ape = s.ape ∧ (ackNotice p t k s).vom = s.vom ∧ (ackNotice p t k s).scratch = s.scratch ∧
    (ackNotice p t k s).ejectInhibit = s.ejectInhibit ∧ (ackNotice p t k s).cursors = s.cursors ∧
    (ackNotice p t k s).srt = s.srt ∧ (ackNotice p t k s).signals = s.signals ∧
    (ackNotice p t k s).choice = s.choice := by
  unfold ackNotice
  try dsimp only
  (repeat' split) <;> simp

@[simp] theorem serve_keeps (p : Port) (t : Tag) (r : Request) (s : State) :
    (serve p t r s).pending = s.pending ∧ (serve p t r s).ctl = s.ctl ∧ (serve p t r s).scratch = s.scratch ∧
    (serve p t r s).ejectInhibit = s.ejectInhibit ∧ (serve p t r s).adu.nextRsn = s.adu.nextRsn ∧
    (serve p t r s).adu.clock = s.adu.clock ∧ (serve p t r s).mpt.timer = s.mpt.timer ∧
    (serve p t r s).mpt.retry = s.mpt.retry ∧ (serve p t r s).mpt.nextOp = s.mpt.nextOp ∧
    (serve p t r s).mpt.head = s.mpt.head ∧ (serve p t r s).ape.state = s.ape.state ∧
    (serve p t r s).ape.unverified = s.ape.unverified ∧ (serve p t r s).ape.inWrite = s.ape.inWrite ∧
    (serve p t r s).vom.cause = s.vom.cause ∧ (serve p t r s).vom.serial = s.vom.serial ∧
    (serve p t r s).vom.capacity = s.vom.capacity ∧ (serve p t r s).vom.appendPoint = s.vom.appendPoint ∧
    (serve p t r s).vom.session = s.vom.session ∧ (serve p t r s).vom.frontier = s.vom.frontier ∧
    (serve p t r s).vom.frontierSlot = s.vom.frontierSlot ∧ (serve p t r s).vom.highestRsn = s.vom.highestRsn ∧
    (serve p t r s).vom.lost = s.vom.lost := by
  unfold serve
  split <;> simp

@[simp] theorem dispatch_keeps (p : Port) (t : Tag) (k : Byte) (b : List Byte) (s : State) :
    (dispatch p t k b s).pending = s.pending ∧ (dispatch p t k b s).ctl = s.ctl ∧
    (dispatch p t k b s).scratch = s.scratch ∧ (dispatch p t k b s).ejectInhibit = s.ejectInhibit ∧
    (dispatch p t k b s).adu.nextRsn = s.adu.nextRsn ∧ (dispatch p t k b s).adu.clock = s.adu.clock ∧
    (dispatch p t k b s).mpt.timer = s.mpt.timer ∧ (dispatch p t k b s).mpt.retry = s.mpt.retry ∧
    (dispatch p t k b s).mpt.nextOp = s.mpt.nextOp ∧ (dispatch p t k b s).mpt.head = s.mpt.head ∧
    (dispatch p t k b s).ape.state = s.ape.state ∧ (dispatch p t k b s).ape.unverified = s.ape.unverified ∧
    (dispatch p t k b s).ape.inWrite = s.ape.inWrite ∧ (dispatch p t k b s).vom.cause = s.vom.cause ∧
    (dispatch p t k b s).vom.serial = s.vom.serial ∧ (dispatch p t k b s).vom.capacity = s.vom.capacity ∧
    (dispatch p t k b s).vom.appendPoint = s.vom.appendPoint ∧ (dispatch p t k b s).vom.session = s.vom.session ∧
    (dispatch p t k b s).vom.frontier = s.vom.frontier ∧ (dispatch p t k b s).vom.frontierSlot = s.vom.frontierSlot ∧
    (dispatch p t k b s).vom.highestRsn = s.vom.highestRsn ∧ (dispatch p t k b s).vom.lost = s.vom.lost := by
  unfold dispatch
  try dsimp only
  (repeat' split) <;> simp

@[simp] theorem takeRequest_keeps (p : Port) (t : Tag) (k : Byte) (b : List Byte) (s : State) :
    (takeRequest p t k b s).pending = s.pending ∧ (takeRequest p t k b s).ctl = s.ctl ∧
    (takeRequest p t k b s).scratch = s.scratch ∧ (takeRequest p t k b s).ejectInhibit = s.ejectInhibit ∧
    (takeRequest p t k b s).adu.nextRsn = s.adu.nextRsn ∧ (takeRequest p t k b s).adu.clock = s.adu.clock ∧
    (takeRequest p t k b s).mpt.timer = s.mpt.timer ∧ (takeRequest p t k b s).mpt.retry = s.mpt.retry ∧
    (takeRequest p t k b s).mpt.nextOp = s.mpt.nextOp ∧ (takeRequest p t k b s).mpt.head = s.mpt.head ∧
    (takeRequest p t k b s).ape.state = s.ape.state ∧ (takeRequest p t k b s).vom.cause = s.vom.cause ∧
    (takeRequest p t k b s).vom.serial = s.vom.serial ∧ (takeRequest p t k b s).vom.capacity = s.vom.capacity ∧
    (takeRequest p t k b s).vom.appendPoint = s.vom.appendPoint ∧ (takeRequest p t k b s).vom.session = s.vom.session ∧
    (takeRequest p t k b s).vom.frontier = s.vom.frontier ∧
    (takeRequest p t k b s).vom.frontierSlot = s.vom.frontierSlot ∧
    (takeRequest p t k b s).vom.highestRsn = s.vom.highestRsn ∧ (takeRequest p t k b s).vom.lost = s.vom.lost := by
  simp only [takeRequest, whenRunning]
  (repeat' split) <;> simp

@[simp] theorem takeAbort_keeps (p : Port) (t : Tag) (s : State) :
    (takeAbort p t s).pending = s.pending ∧ (takeAbort p t s).ctl = s.ctl ∧ (takeAbort p t s).params = s.params ∧
    (takeAbort p t s).mpt = s.mpt ∧ (takeAbort p t s).vom = s.vom ∧ (takeAbort p t s).scratch = s.scratch ∧
    (takeAbort p t s).ejectInhibit = s.ejectInhibit ∧ (takeAbort p t s).srt = s.srt ∧
    (takeAbort p t s).choice = s.choice ∧ (takeAbort p t s).adu.nextRsn = s.adu.nextRsn ∧
    (takeAbort p t s).adu.clock = s.adu.clock ∧ (takeAbort p t s).pool.free = s.pool.free ∧
    (takeAbort p t s).pool.opened = s.pool.opened ∧ (takeAbort p t s).pool.nextBsn = s.pool.nextBsn ∧
    (takeAbort p t s).ape.state = s.ape.state ∧ (takeAbort p t s).ape.yield = s.ape.yield := by
  unfold takeAbort
  try dsimp only
  (repeat' split) <;> simp

@[simp] theorem haltTest_keeps (s : State) :
    (haltTest s).pending = s.pending ∧ (haltTest s).params = s.params ∧ (haltTest s).ports = s.ports ∧
    (haltTest s).adu = s.adu ∧ (haltTest s).pool = s.pool ∧ (haltTest s).mpt = s.mpt ∧ (haltTest s).ape = s.ape ∧
    (haltTest s).vom = s.vom ∧ (haltTest s).scratch = s.scratch ∧ (haltTest s).ejectInhibit = s.ejectInhibit ∧
    (haltTest s).cursors = s.cursors ∧ (haltTest s).srt = s.srt ∧ (haltTest s).ntu = s.ntu ∧
    (haltTest s).signals = s.signals ∧ (haltTest s).choice = s.choice := by
  unfold haltTest
  try dsimp only
  simp

@[simp] theorem checkMount_keeps (s : State) :
    (checkMount s).pending = s.pending ∧ (checkMount s).ctl = s.ctl ∧ (checkMount s).params = s.params ∧
    (checkMount s).ports = s.ports ∧ (checkMount s).adu = s.adu ∧ (checkMount s).pool = s.pool ∧
    (checkMount s).ape = s.ape ∧ (checkMount s).vom = s.vom ∧ (checkMount s).scratch = s.scratch ∧
    (checkMount s).ejectInhibit = s.ejectInhibit ∧ (checkMount s).cursors = s.cursors ∧ (checkMount s).srt = s.srt ∧
    (checkMount s).ntu = s.ntu ∧ (checkMount s).signals = s.signals ∧ (checkMount s).choice = s.choice ∧
    (checkMount s).mpt.head = s.mpt.head ∧ (checkMount s).mpt.holder = s.mpt.holder ∧
    (checkMount s).mpt.writes = s.mpt.writes ∧ (checkMount s).mpt.burstLimit = s.mpt.burstLimit ∧
    (checkMount s).mpt.lastServed = s.mpt.lastServed := by
  unfold checkMount
  try dsimp only
  simp

@[simp] theorem noteCartridge_keeps (s : State) :
    (noteCartridge s).pending = s.pending ∧ (noteCartridge s).params = s.params ∧ (noteCartridge s).ports = s.ports ∧
    (noteCartridge s).adu = s.adu ∧ (noteCartridge s).pool = s.pool ∧ (noteCartridge s).mpt = s.mpt ∧
    (noteCartridge s).ape = s.ape ∧ (noteCartridge s).vom = s.vom ∧ (noteCartridge s).scratch = s.scratch ∧
    (noteCartridge s).ejectInhibit = s.ejectInhibit ∧ (noteCartridge s).cursors = s.cursors ∧
    (noteCartridge s).srt = s.srt ∧ (noteCartridge s).ntu = s.ntu ∧ (noteCartridge s).signals = s.signals ∧
    (noteCartridge s).choice = s.choice ∧ (noteCartridge s).ctl.test = s.ctl.test := by
  unfold noteCartridge
  try dsimp only
  simp

@[simp] theorem enableLinks_keeps (s : State) :
    (enableLinks s).pending = s.pending ∧ (enableLinks s).ctl = s.ctl ∧ (enableLinks s).params = s.params ∧
    (enableLinks s).adu = s.adu ∧ (enableLinks s).pool = s.pool ∧ (enableLinks s).mpt = s.mpt ∧
    (enableLinks s).ape = s.ape ∧ (enableLinks s).vom = s.vom ∧ (enableLinks s).scratch = s.scratch ∧
    (enableLinks s).ejectInhibit = s.ejectInhibit ∧ (enableLinks s).cursors = s.cursors ∧ (enableLinks s).srt = s.srt ∧
    (enableLinks s).signals = s.signals ∧ (enableLinks s).choice = s.choice := by
  simp only [enableLinks, Port.all, List.foldl]
  simp

@[simp] theorem startUpPass_keeps (b : Bool) (s : State) :
    (startUpPass b s).pending = s.pending ∧ (startUpPass b s).params = s.params ∧ (startUpPass b s).adu = s.adu ∧
    (startUpPass b s).pool = s.pool ∧ (startUpPass b s).scratch = s.scratch ∧
    (startUpPass b s).ejectInhibit = s.ejectInhibit ∧ (startUpPass b s).cursors = s.cursors ∧
    (startUpPass b s).srt = s.srt ∧ (startUpPass b s).choice = s.choice ∧ (startUpPass b s).mpt.link = s.mpt.link ∧
    (startUpPass b s).mpt.timer = s.mpt.timer ∧ (startUpPass b s).mpt.retry = s.mpt.retry ∧
    (startUpPass b s).mpt.nextOp = s.mpt.nextOp ∧ (startUpPass b s).mpt.head = s.mpt.head ∧
    (startUpPass b s).ape.state = s.ape.state ∧ (startUpPass b s).ape.unverified = s.ape.unverified ∧
    (startUpPass b s).ape.inWrite = s.ape.inWrite ∧ (startUpPass b s).vom.cause = s.vom.cause ∧
    (startUpPass b s).vom.serial = s.vom.serial ∧ (startUpPass b s).vom.capacity = s.vom.capacity ∧
    (startUpPass b s).vom.appendPoint = s.vom.appendPoint ∧ (startUpPass b s).vom.remaining = s.vom.remaining ∧
    (startUpPass b s).vom.level = s.vom.level ∧ (startUpPass b s).vom.session = s.vom.session ∧
    (startUpPass b s).vom.frontier = s.vom.frontier ∧ (startUpPass b s).vom.frontierSlot = s.vom.frontierSlot ∧
    (startUpPass b s).vom.highestRsn = s.vom.highestRsn ∧ (startUpPass b s).vom.lost = s.vom.lost ∧
    (startUpPass b s).vom.unload = s.vom.unload := by
  unfold startUpPass
  try dsimp only
  (repeat' split) <;> simp

@[simp] theorem releaseReset_keeps (s : State) :
    (releaseReset s).pending = s.pending ∧ (releaseReset s).params = s.params ∧ (releaseReset s).ports = s.ports ∧
    (releaseReset s).adu = s.adu ∧ (releaseReset s).pool = s.pool ∧ (releaseReset s).mpt = s.mpt ∧
    (releaseReset s).ape = s.ape ∧ (releaseReset s).vom = s.vom ∧ (releaseReset s).scratch = s.scratch ∧
    (releaseReset s).ejectInhibit = s.ejectInhibit ∧ (releaseReset s).cursors = s.cursors ∧
    (releaseReset s).srt = s.srt ∧ (releaseReset s).ntu = s.ntu ∧ (releaseReset s).signals = s.signals ∧
    (releaseReset s).choice = s.choice := by
  unfold releaseReset
  try dsimp only
  (repeat' split) <;> simp

@[simp] theorem endPhase1_keeps (b : Bool) (s : State) :
    (endPhase1 b s).pending = s.pending ∧ (endPhase1 b s).params = s.params ∧ (endPhase1 b s).ports = s.ports ∧
    (endPhase1 b s).adu = s.adu ∧ (endPhase1 b s).pool = s.pool ∧ (endPhase1 b s).mpt = s.mpt ∧
    (endPhase1 b s).ape = s.ape ∧ (endPhase1 b s).vom = s.vom ∧ (endPhase1 b s).scratch = s.scratch ∧
    (endPhase1 b s).ejectInhibit = s.ejectInhibit ∧ (endPhase1 b s).cursors = s.cursors ∧ (endPhase1 b s).srt = s.srt ∧
    (endPhase1 b s).ntu = s.ntu ∧ (endPhase1 b s).signals = s.signals ∧ (endPhase1 b s).choice = s.choice := by
  unfold endPhase1
  try dsimp only
  (repeat' split) <;> simp

@[simp] theorem endPhase2_keeps (b : Bool) (s : State) :
    (endPhase2 b s).pending = s.pending ∧ (endPhase2 b s).params = s.params ∧ (endPhase2 b s).ports = s.ports ∧
    (endPhase2 b s).adu = s.adu ∧ (endPhase2 b s).pool = s.pool ∧ (endPhase2 b s).ape = s.ape ∧
    (endPhase2 b s).vom = s.vom ∧ (endPhase2 b s).scratch = s.scratch ∧ (endPhase2 b s).ejectInhibit = s.ejectInhibit ∧
    (endPhase2 b s).cursors = s.cursors ∧ (endPhase2 b s).srt = s.srt ∧ (endPhase2 b s).ntu = s.ntu ∧
    (endPhase2 b s).signals = s.signals ∧ (endPhase2 b s).choice = s.choice ∧ (endPhase2 b s).mpt.head = s.mpt.head ∧
    (endPhase2 b s).mpt.holder = s.mpt.holder ∧ (endPhase2 b s).mpt.writes = s.mpt.writes ∧
    (endPhase2 b s).mpt.burstLimit = s.mpt.burstLimit ∧ (endPhase2 b s).mpt.lastServed = s.mpt.lastServed := by
  unfold endPhase2
  try dsimp only
  (repeat' split) <;> simp

@[simp] theorem removedInTest_keeps (s : State) :
    (removedInTest s).pending = s.pending ∧ (removedInTest s).ctl = s.ctl ∧ (removedInTest s).params = s.params ∧
    (removedInTest s).ports = s.ports ∧ (removedInTest s).adu = s.adu ∧ (removedInTest s).vom = s.vom ∧
    (removedInTest s).scratch = s.scratch ∧ (removedInTest s).ejectInhibit = s.ejectInhibit ∧
    (removedInTest s).cursors = s.cursors ∧ (removedInTest s).srt = s.srt ∧ (removedInTest s).ntu = s.ntu ∧
    (removedInTest s).choice = s.choice ∧ (removedInTest s).pool.opened = s.pool.opened ∧
    (removedInTest s).pool.sealed = s.pool.sealed ∧ (removedInTest s).pool.nextBsn = s.pool.nextBsn ∧
    (removedInTest s).mpt.burstLimit = s.mpt.burstLimit ∧ (removedInTest s).mpt.lastServed = s.mpt.lastServed ∧
    (removedInTest s).ape.state = s.ape.state ∧ (removedInTest s).ape.unverified = s.ape.unverified ∧
    (removedInTest s).ape.inWrite = s.ape.inWrite := by
  unfold removedInTest
  try dsimp only
  simp

@[simp] theorem faultInTest_keeps (s : State) :
    (faultInTest s).pending = s.pending ∧ (faultInTest s).params = s.params ∧ (faultInTest s).ports = s.ports ∧
    (faultInTest s).adu = s.adu ∧ (faultInTest s).vom = s.vom ∧ (faultInTest s).scratch = s.scratch ∧
    (faultInTest s).ejectInhibit = s.ejectInhibit ∧ (faultInTest s).cursors = s.cursors ∧ (faultInTest s).srt = s.srt ∧
    (faultInTest s).ntu = s.ntu ∧ (faultInTest s).choice = s.choice ∧ (faultInTest s).pool.opened = s.pool.opened ∧
    (faultInTest s).pool.sealed = s.pool.sealed ∧ (faultInTest s).pool.nextBsn = s.pool.nextBsn ∧
    (faultInTest s).mpt.nextOp = s.mpt.nextOp ∧ (faultInTest s).mpt.burstLimit = s.mpt.burstLimit ∧
    (faultInTest s).mpt.lastServed = s.mpt.lastServed ∧ (faultInTest s).ape.state = s.ape.state ∧
    (faultInTest s).ape.unverified = s.ape.unverified ∧ (faultInTest s).ape.inWrite = s.ape.inWrite := by
  unfold faultInTest
  try dsimp only
  simp

@[simp] theorem frameLimit_keeps (p : Port) (s : State) :
    (frameLimit p s).pending = s.pending ∧ (frameLimit p s).ctl = s.ctl ∧ (frameLimit p s).params = s.params ∧
    (frameLimit p s).scratch = s.scratch ∧ (frameLimit p s).ejectInhibit = s.ejectInhibit ∧
    (frameLimit p s).adu.nextRsn = s.adu.nextRsn ∧ (frameLimit p s).adu.clock = s.adu.clock ∧
    (frameLimit p s).pool.opened = s.pool.opened ∧ (frameLimit p s).pool.nextBsn = s.pool.nextBsn ∧
    (frameLimit p s).mpt.timer = s.mpt.timer ∧ (frameLimit p s).mpt.retry = s.mpt.retry ∧
    (frameLimit p s).mpt.nextOp = s.mpt.nextOp ∧ (frameLimit p s).mpt.head = s.mpt.head ∧
    (frameLimit p s).ape.state = s.ape.state ∧ (frameLimit p s).vom.state = s.vom.state ∧
    (frameLimit p s).vom.cause = s.vom.cause ∧ (frameLimit p s).vom.serial = s.vom.serial ∧
    (frameLimit p s).vom.capacity = s.vom.capacity ∧ (frameLimit p s).vom.appendPoint = s.vom.appendPoint ∧
    (frameLimit p s).vom.remaining = s.vom.remaining ∧ (frameLimit p s).vom.level = s.vom.level ∧
    (frameLimit p s).vom.session = s.vom.session ∧ (frameLimit p s).vom.frontier = s.vom.frontier ∧
    (frameLimit p s).vom.frontierSlot = s.vom.frontierSlot ∧ (frameLimit p s).vom.highestRsn = s.vom.highestRsn ∧
    (frameLimit p s).vom.lost = s.vom.lost := by
  unfold frameLimit
  try dsimp only
  (repeat' split) <;> simp

@[simp] theorem retryOperation_keeps (o : Outstanding) (s : State) :
    (retryOperation o s).pending = s.pending ∧ (retryOperation o s).ctl = s.ctl ∧
    (retryOperation o s).params = s.params ∧ (retryOperation o s).ports = s.ports ∧ (retryOperation o s).adu = s.adu ∧
    (retryOperation o s).pool = s.pool ∧ (retryOperation o s).ape = s.ape ∧ (retryOperation o s).vom = s.vom ∧
    (retryOperation o s).scratch = s.scratch ∧ (retryOperation o s).ejectInhibit = s.ejectInhibit ∧
    (retryOperation o s).cursors = s.cursors ∧ (retryOperation o s).srt = s.srt ∧ (retryOperation o s).ntu = s.ntu ∧
    (retryOperation o s).signals = s.signals ∧ (retryOperation o s).choice = s.choice ∧
    (retryOperation o s).mpt.head = s.mpt.head ∧ (retryOperation o s).mpt.holder = s.mpt.holder ∧
    (retryOperation o s).mpt.writes = s.mpt.writes ∧ (retryOperation o s).mpt.burstLimit = s.mpt.burstLimit ∧
    (retryOperation o s).mpt.lastServed = s.mpt.lastServed := by
  unfold retryOperation
  try dsimp only
  simp

@[simp] theorem sealExpired_keeps (s : State) :
    (sealExpired s).pending = s.pending ∧ (sealExpired s).ctl = s.ctl ∧ (sealExpired s).params = s.params ∧
    (sealExpired s).adu = s.adu ∧ (sealExpired s).mpt = s.mpt ∧ (sealExpired s).ape = s.ape ∧
    (sealExpired s).scratch = s.scratch ∧ (sealExpired s).ejectInhibit = s.ejectInhibit ∧
    (sealExpired s).cursors = s.cursors ∧ (sealExpired s).srt = s.srt ∧ (sealExpired s).choice = s.choice ∧
    (sealExpired s).pool.free = s.pool.free ∧ (sealExpired s).vom.state = s.vom.state ∧
    (sealExpired s).vom.cause = s.vom.cause ∧ (sealExpired s).vom.serial = s.vom.serial ∧
    (sealExpired s).vom.capacity = s.vom.capacity ∧ (sealExpired s).vom.appendPoint = s.vom.appendPoint ∧
    (sealExpired s).vom.session = s.vom.session ∧ (sealExpired s).vom.frontier = s.vom.frontier ∧
    (sealExpired s).vom.frontierSlot = s.vom.frontierSlot ∧ (sealExpired s).vom.highestRsn = s.vom.highestRsn ∧
    (sealExpired s).vom.lost = s.vom.lost ∧ (sealExpired s).vom.unload = s.vom.unload := by
  unfold sealExpired
  try dsimp only
  (repeat' split) <;> simp

end Sys2Proof.Machine
end

