-- ==== Sys2Proof/Laws/Requests.lean ====
section
/-! SUPPORT. What taking a request does in the vocabulary of the statements: a request taken at a ready port is dispatched with
its frame in the tag's slot, and a reply given at once leaves the ports as `answered` says. -/

namespace Sys2Proof.Machine

open Sys2Proof

theorem whenRunning_running (f : State → State) (s : State) (h : s.ctl.test = .running) : whenRunning f s = f s := by
  simp [whenRunning, State.running, h]

/-- A port at which nothing waits hears a character (R162). -/
theorem hear_clear (p : Port) (s : State) (h : (s.port p).waiting = []) :
    hear p s = s.setPort p { s.port p with up := true, activity := some 20 } := by
  unfold hear
  rw [place_clear]
  · rfl
  · simp [h]

/-- The slot of a request in the course of its dispatch. -/
def TagSlot.dispatch (kind : Byte) (payload : List Byte) : TagSlot :=
  { state := .dispatching, frame := some { kind := kind, payload := payload }, rsn := none, reply := none }

/-- What the port's checks make of a request whose frame stands in its slot (R166). -/
def dispatched (p : Port) (t : Tag) (kind : Byte) (payload : List Byte) (s : State) : State :=
  match parseRequest kind.toNat payload with
  | none => reply p t .badRequest .empty s
  | some r => if r.gated = true ∧ s.gateClosed p = true then reply p t .attention .empty s else serve p t r s

/-- A request taken at a ready port (R163, R166). -/
theorem takeRequest_ready (p : Port) (t : Tag) (kind : Byte) (payload : List Byte) (s : State) (h : Ready s p t)
    (len : payload.length ≤ 2040) :
    takeRequest p t kind payload s =
      dispatched p t kind payload { s with ports := s.taken p t (TagSlot.dispatch kind payload) } := by
  obtain ⟨⟨⟨run, quiet⟩, clear⟩, idle, room⟩ := h
  have slot : ((s.setPort p { s.port p with up := true, activity := some 20 }).slot p t) = s.slot p t := by
    simp [State.slot, HostPort.slot]
  have len' : ¬ Config.maxPayload < payload.length := by simp [Config.maxPayload]; omega
  simp only [takeRequest, whenRunning_running _ _ run, hear_clear p s clear, slot, idle, len', ne_eq, not_true_eq_false,
    or_self, if_false, goodFrame, dispatch]
  have e : ((s.setPort p { s.port p with up := true, activity := some 20 }).setPort p
      { (s.setPort p { s.port p with up := true, activity := some 20 }).port p with errors := 0 }).setSlot p t
        (TagSlot.dispatch kind payload) = { s with ports := s.taken p t (TagSlot.dispatch kind payload) } := by
    simp [State.setSlot, State.taken, State.setPort, State.port, HostPort.setSlot]
  unfold dispatched
  rw [← e]
  rfl

/-- A reply given at once to a request just taken (R167, R171). -/
theorem replyWith_taken (p : Port) (t : Tag) (st : Status) (body : ReplyBody) (already gap : Bool) (s u : State)
    (x : TagSlot) (hu : u.ports = s.taken p t x) (h : Ready s p t) (busy : x.state ≠ .idle) :
    replyWith p t st body already gap u =
      { u with
        ports := (s.answered p t x.kindByte st body
          { low := u.low, clockUnset := x.kindByte == 1 && u.adu.clock.isNone, already := already, gap := gap }) } := by
  obtain ⟨⟨⟨run, quiet⟩, clear⟩, idle, room⟩ := h
  have hp : u.port p = { s.port p with up := true, activity := some 20, errors := 0, tags := (s.port p).tags.set t x } := by
    simp [State.port, hu, State.taken]
  have hs : u.slot p t = x := by simp [State.slot, hp, HostPort.slot]
  rw [replyWith_now]
  · simp [State.replyFor, hs, hp, State.indicators, State.setPort, hu, State.taken, State.answered, HostPort.setSlot,
      appendKind]
  · simpa [hs] using busy
  · simp [hp]
  · simpa [hp] using clear
  · simpa [hp, Config.transmitLimit] using room

/-- A gate without gating notices is OPEN (R160). -/
theorem gateOpen_not_closed (s : State) (p : Port) (h : GateOpen s p) : s.gateClosed p = false := by
  simp only [State.gateClosed, List.any_eq_false]
  intro e he
  simp [h e he]

end Sys2Proof.Machine
end

