-- ==== Sys2Proof/Tests/Slice0.lean ====
section
/-! SUPPORT. Small tests: the well-formedness checks refuse ill-formed terms; layouts and single steps against values worked out
from the manual; and, for each statement with hypotheses, states and operands that meet them. -/

namespace Sys2Proof.Tests

open Sys2Proof Sys2Proof.Machine

/-! ## Well-formedness -/

theorem test_wf_refuses_long_payload :
    ∀ f ∈ ([Instr.append 0 0, .sync 0 0, .setClock 0 0, .openStream 0 0, .closeStream 0 0, .reserveStream 0 0,
      .releaseStream 0 0, .lockRemoval 0 0, .unlockRemoval 0 0, .unload 0 0, .replayOpen 0 0, .replayNext 0 0,
      .replayClose 0 0, .setParameters 0 0, .getParameters 0 0, .getStatus 0 0, .ackNotice 0 0,
      .unknownRequestKind 0 0 18] : List (List Byte → Instr)),
      ∀ b : List Byte, b.length = 2041 → (f b).wf = false ∧ (f []).wf = true := by
  intro f hf b hb
  have long : ¬ b.length ≤ 2040 := by omega
  simp only [List.mem_cons, List.not_mem_nil, or_false] at hf
  rcases hf with h | h | h | h | h | h | h | h | h | h | h | h | h | h | h | h | h | h <;> subst h <;>
    simp [Instr.wf, payloadFits, namesVolume, knownKind, long]

theorem test_wf_refuses_volume_as_stream :
    (Instr.reserveStream 0 0 [255]).wf = false ∧ (Instr.releaseStream 0 0 [255]).wf = false := by decide

theorem test_wf_refuses_known_kind :
    (Instr.unknownRequestKind 0 0 1 []).wf = false ∧ (Instr.unknownRequestKind 0 0 17 []).wf = false ∧
      (Instr.unknownRequestKind 0 0 0 []).wf = true := by decide

theorem test_wf_refuses_short_read : (Instr.readDone 0 [1, 2, 3]).wf = false := by decide

theorem test_wf_refuses_large_slot :
    (Instr.verifyResult 16777216 true).wf = false ∧ (Instr.verifyTimerExpiry 16777216).wf = false ∧
      (Instr.verifyTimerExpiry 16777215).wf = true := by decide

theorem test_wf_refuses_large_bsn : (Instr.startAgeExpiry 4294967296).wf = false := by decide

/-! ## Layouts -/

/-- The check value that R180 gives for the nine characters 1 to 9. -/
theorem test_crc_check_value :
    crc32 [0x31, 0x32, 0x33, 0x34, 0x35, 0x36, 0x37, 0x38, 0x39] = 0xCBF43926#32 := by decide +kernel

/-- R3: 16 header bytes and the payload, rounded up to a multiple of 8. -/
theorem test_footprint : footprint 0 = 16 ∧ footprint 1 = 24 ∧ footprint 8 = 24 ∧ footprint 2000 = 2016 := by decide

theorem test_record_header :
    ({ rsn := 1, timestamp := 2, payload := [9], stream := 5, kind := .data, origin := 3, clockUnset := true
       sync := true } : Record).bytes =
      [0, 0, 0, 0, 0, 1, 0, 0, 0, 0, 0, 2, 0, 1, 5, 0xD9, 9, 0, 0, 0, 0, 0, 0, 0] := by decide

/-! ## States -/

/-- A part that runs with no cartridge, its four links up and quiet. -/
def run0 : State :=
  { State.reset with
    ctl := { test := .running, testLines := 0, faultLine := false, resetAsserted := false, cartridgeNoted := false }
    ports := Vector.replicate 4 { HostPort.reset with up := true, activity := some 20 } }

def block (n : Nat) : Block :=
  { bsn := n, session := 1, cause := .timer, count := 1, fill := 16, firstRsn := n + 5, serial := 7, crc := 0
    records := [], waiters := [], ageTimer := none, aged := false, attempts := 0 }

def open0 : OpenBlock :=
  { records := [], count := 1, fill := 16, firstRsn := some 10, sealDelay := 40, sealTimer := some 40 }

/-- READY, session 1, blocks 0 to 3 durable, block 4 being written to slot 4, one block open, stream 0 OPEN. -/
def ready0 : State :=
  { run0 with
    vom := { VolumeRecord.unset .ready with
      serial := some 7, capacity := some 4096, appendPoint := some 5, remaining := some 4090, level := some .normal
      session := some 1, frontier := some 3, frontierSlot := some 3, highestRsn := some 8, lost := some 0 }
    adu := { queue := [], nextRsn := some 11, clock := none }
    pool := { free := 46, opened := some open0, sealed := [], nextBsn := some 5 }
    ape := { state := .running, unverified := [], inWrite := some { block := block 4, slot := 4, stale := false }
             yield := false }
    mpt := { MediumPort.reset with
      link := some { op := .write 4 [], number := 9, issuer := .engine }, timer := some 3000, nextOp := 10
      head := some 4, holder := some .engine, writes := 1, burstLimit := some 32 }
    srt := { Claims.reset with streams := Claims.reset.streams.set 0 { StreamEntry.reset with isOpen := true } } }

/-- The same with no block open. -/
def shut0 : State :=
  { ready0 with pool := { ready0.pool with opened := none, free := 47 }
                vom := { ready0.vom with remaining := some 4091 } }

/-- The same with a block open that has no room for a record with payload. -/
def full0 : State := { ready0 with pool := { ready0.pool with opened := some { open0 with fill := 2000 } } }

/-- The same with no buffer FREE. -/
def noFree (s : State) : State := { s with pool := { s.pool with free := 0 } }

/-- The engine IDLE, one block sealed that waits, the drive at rest. -/
def idle0 : State :=
  { shut0 with
    pool := { shut0.pool with sealed := [{ block 4 with ageTimer := some 150 }] }
    ape := Engine.reset
    mpt := { MediumPort.reset with head := some 5 }
    vom := { shut0.vom with remaining := some 4090 } }

def gatedBy (b : Notice) (s : State) : State :=
  { s with ntu := s.ntu.set 0 { queue := [{ number := 0, body := b, sent := true }], counter := 1 } }

def entry (p : Port) (t : Tag) : Entry :=
  { port := p, tag := t, request := .sync, deadline := some 2000, held := true }

/-- A part in which two requests wait for admission. -/
def queued0 : State :=
  { noFree shut0 with
    adu := { shut0.adu with queue := [entry 0 1, entry 1 1] }
    ports := (shut0.ports.set 0 (((shut0.port 0).setSlot 1 { TagSlot.idle with state := .queued }))).set 1
      ((shut0.port 1).setSlot 1 { TagSlot.idle with state := .queued }) }

def unverified (n slot : Nat) (passed : Bool) : Unverified :=
  { block := block n, slot := slot, timer := if passed then none else some 500, passed := passed }

/-- Blocks 4 to 6 unverified or being written. -/
def verify0 : State :=
  { ready0 with
    vom := { ready0.vom with appendPoint := some 7, remaining := some 4088 }
    ape := { ready0.ape with
      unverified := [unverified 4 4 false, unverified 5 5 true]
      inWrite := some { block := block 6, slot := 6, stale := false } } }

/-- A drive operation of a client is outstanding and that client holds the grant. -/
def doing (op : DriveOp) (issuer : Issuer) (holder : Client) (s : State) : State :=
  { s with mpt := { MediumPort.reset with
      link := some { op := op, number := 9, issuer := issuer }, timer := some 3000, nextOp := 10, holder := some holder } }

/-- A cartridge between its MOUNT and READY. -/
def loading (st : VolState) : State :=
  { run0 with vom := { VolumeRecord.unset st with serial := some 7, capacity := some 4096 } }

/-- A cursor of port 0 that fills. -/
def filling0 : Cursor :=
  { Cursor.reset with state := .filling, phase := .reading, readPos := some 2, inUse := some 1
                      filter := { streams := 1, part := false } }

def withCursor (c : Cursor) (s : State) : State := { s with cursors := s.cursors.set 0 c }

/-- The state after a command; the state itself where the command would not answer one. -/
def after (c : Instr) (s : State) : State :=
  match exec c s with
  | .next t => t
  | .fault _ => s
  | .refused _ => s

/-! ## Single steps -/

/-- R22, R23: the record takes RSN 11 and the stream's count is 1. -/
theorem test_append_takes_rsn :
    (after (.append 0 0 [0, 0, 0, 1, 65]) ready0).adu.nextRsn = some 12 ∧
      ((after (.append 0 0 [0, 0, 0, 1, 65]) ready0).stream 0).count = 1 := by decide

/-- R20: R − 1 below 32 refuses a record that needs a block. -/
theorem test_append_at_margin :
    ((after (.append 0 0 [0, 0, 0, 1, 65]) { shut0 with vom := { shut0.vom with remaining := some 32 } }).port 0).transmit.map
      (fun f => match f with
        | .reply r => r.status
        | .notice _ _ => .done) = [.volumeFull] := by decide

/-- R28: with every block durable the SYNC is answered at once with BSN 3. -/
theorem test_sync_done :
    ((after (.sync 0 0 []) { shut0 with pool := { shut0.pool with nextBsn := some 4 } }).port 0).transmit.map
      (fun f => match f with
        | .reply r => r.body
        | .notice _ _ => .empty) = [.durable 10 3 none] := by decide

/-- R31: the clock takes the value, and port 2 is posted CLOCK_SET. -/
theorem test_set_clock :
    (after (.setClock 0 0 [0, 0, 0, 0, 1, 0]) ready0).adu.clock = some 256 ∧
      (after (.setClock 0 0 [0, 0, 0, 0, 1, 0]) ready0).bodies 2 = [.clockSet 256 0] := by decide

/-- R30: the clock stands at 2^48 − 1. -/
theorem test_clock_stands :
    (after .journalClockTick { run0 with adu := { run0.adu with clock := some 281474976710655 } }).adu.clock =
      some 281474976710655 := by decide

/-- R32, R33: a stream opens and closes again. -/
theorem test_open_close_stream :
    ((after (.openStream 0 0 [3]) ready0).stream 3).isOpen = true ∧
      ((after (.closeStream 0 0 [0]) ready0).stream 0).isOpen = false := by decide

/-- R146: the requester becomes the reserving port. -/
theorem test_reserve_stream : ((after (.reserveStream 2 0 [0]) ready0).stream 0).holder = some 2 := by decide

/-- R147: a stream held by another port refuses the volume. -/
theorem test_reserve_volume_conflict :
    (after (.reserveVolume 1 0) (after (.reserveStream 2 0 [0]) ready0)).srt.volume = none ∧
      (after (.reserveVolume 2 0) (after (.reserveStream 2 0 [0]) ready0)).srt.volume = some 2 := by decide

/-- R118, R150: the lock asserts the line in READY with nothing staged. -/
theorem test_lock_asserts_line :
    (after (.lockRemoval 1 0 []) { idle0 with pool := { idle0.pool with sealed := [] } }).ejectInhibit = true ∧
      (after (.unlockRemoval 1 0 []) { idle0 with pool := { idle0.pool with sealed := [] } }).ejectInhibit = false := by
  decide

/-- R108: a lock of another port refuses an UNLOAD; the requester's own does not. -/
theorem test_unload_locked :
    (after (.unload 0 0 []) (after (.lockRemoval 1 0 []) ready0)).vom.state = .ready ∧
      (after (.unload 1 1 []) (after (.lockRemoval 1 0 []) ready0)).vom.state = .draining := by decide

/-- R164: the eighth error in a row resets the port; the count returns to 0. -/
theorem test_eighth_error :
    ((after (.frameError 0) { run0 with ports := run0.ports.set 0 { run0.port 0 with errors := 7 } }).port 0).errors = 0 ∧
      (after (.frameError 0) { run0 with ports := run0.ports.set 0 { run0.port 0 with errors := 7 } }).bodies 0 =
        [.resetOccurred .port] := by decide

/-- R162: the expiry takes the link down and tells the other ports. -/
theorem test_link_lost :
    ((after (.activityTimerExpiry 3) run0).port 3).up = false ∧
      (after (.activityTimerExpiry 3) run0).bodies 1 = [.portDown (PortSet.empty.set 3 true)] := by decide

/-- R159: the acknowledged notice leaves and the gate opens. -/
theorem test_ack_opens_gate :
    (after (.ackNotice 0 0 [0, 0]) (gatedBy (.resetOccurred .part) run0)).gateClosed 0 = false := by decide

/-- R98, R99, R101: insertion, MOUNT, FIND_END, and a blank volume is READY with R = C − 1. -/
theorem test_blank_volume_ready :
    (after (.endFound 1 0) (after (.mounted 0 4096 7 .writeOnce) (after .cartridgeInserted run0))).vom.remaining =
      some 4095 := by decide

/-- R100: 4,095 slots are too few. -/
theorem test_small_capacity_rejected :
    (after (.mounted 0 4095 7 .writeOnce) (after .cartridgeInserted run0)).vom.reason = some .capacity := by decide

/-- R60: a completion under another number is discarded. -/
theorem test_other_number_discarded : (after (.written 8) ready0).ape.inWrite = ready0.ape.inWrite := by decide

/-- R81: the written block is UNVERIFIED; R67: the head stands beyond its slot. -/
theorem test_written :
    (after (.written 9) ready0).ape.unverified.map (fun u => (u.slot, u.timer)) = [(4, some 500)] ∧
      (after (.written 9) ready0).mpt.head = some 5 := by decide

/-- R82, R79: a write error returns the block, and the engine seeks P. -/
theorem test_write_error :
    (after (.writeError 9) ready0).pool.sealed.map (fun b => (b.bsn, b.attempts)) = [(4, 1)] ∧
      (after (.writeError 9) ready0).mpt.link.map (fun o => o.op) = some (.seek 5) := by decide

/-- R85: the failed block and the later one go back; the write in hand is stale. -/
theorem test_relocation :
    (after (.verifyResult 4 false) verify0).pool.sealed.map (fun b => (b.bsn, b.attempts)) = [(4, 1), (5, 0)] ∧
      (after (.verifyResult 4 false) verify0).ape.inWrite.map (fun w => w.stale) = some true := by decide

/-- R43, R44: the seal timer seals with cause TIMER under the next BSN. -/
theorem test_seal_timer :
    (after .sealTimerExpiry ready0).pool.sealed.map (fun b => (b.bsn, b.cause)) = [(5, .timer)] := by decide

/-- R49, R77, R79: an aged block starts a burst with the head at P. -/
theorem test_age_starts :
    (after (.startAgeExpiry 4) idle0).mpt.link.map (fun o => o.op.slot) = some 5 ∧
      (after (.startAgeExpiry 4) idle0).vom.appendPoint = some 6 := by decide

/-- R26: the entry behind the head is refused STALLED and the head stays. -/
theorem test_deadline :
    (after (.deadlineExpiry 1 1) queued0).adu.queue.map (fun e => e.port) = [0] := by decide

/-- R68: the operation is issued again under the next number. -/
theorem test_retry :
    (after .operationTimerExpiry (doing (.seek 3) .volume .volume run0)).mpt.link.map (fun o => o.number) = some 10 := by
  decide

/-- R116: a drive fault of a volume being mounted. -/
theorem test_drive_fault :
    (after .driveFault (loading .mounting)).vom.cause = some .drive ∧
      (after .driveFault (loading .mounting)).bodies 3 = [.volumeGone .drive none 0] := by decide

/-- R122, R123: FIRST opens at slot 0. -/
theorem test_replay_open :
    ((after (.replayOpen 0 0 [1, 0, 0, 0, 0, 0, 1, 0]) ready0).cursor 0).readPos = some 0 := by decide

/-- R132: a CLOSED cursor refuses NEXT. -/
theorem test_next_closed :
    ((after (.replayNext 0 0 []) ready0).port 0).transmit.map
      (fun f => match f with
        | .reply r => r.status
        | .notice _ _ => .done) = [.badRequest] := by decide

/-! ## Witnesses: the hypotheses of the statements can be met -/

theorem witness_StepTakesFront :
    ({ ready0 with pending := [.journalClockTick, .resetNAsserted] } : State).pending =
      .journalClockTick :: [.resetNAsserted] := by decide

def testing (st : TestState) : State := { State.reset with ctl := { State.reset.ctl with test := st } }

theorem witness_StartUpPhases :
    (State.reset.signals = [] ∧ State.reset.ctl.test = .held) ∧
      ((testing .phase1).signals = [] ∧ (testing .phase1).ctl.test = .phase1) ∧
      ((testing .phase2).signals = [] ∧ (testing .phase2).ctl.test = .phase2 ∧ (testing .phase2).mpt.link = none) := by
  decide

theorem witness_MalformedRefused :
    Ready ready0 3 3 ∧ ([] : List Byte).length ≤ 2040 ∧ parseRequest (1 : Byte).toNat [] = none ∧
      (0 : Byte).toNat = 0 ∧ 17 < (18 : Byte).toNat := by decide

theorem witness_GatedRefused :
    Ready (gatedBy (.writeFailed .drive 0) ready0) 0 0 ∧ (parseRequest (1 : Byte).toNat [0, 0, 0, 0]).isSome = true ∧
      (1 : Byte).toNat ∈ [1, 2, 3, 4, 5, 6, 8, 10, 11, 12] ∧
      ∃ e ∈ ((gatedBy (.writeFailed .drive 0) ready0).notices 0).queue, ∃ c n, e.body = .writeFailed c n := by
  refine ⟨by decide, by decide, by decide, { number := 0, body := .writeFailed .drive 0, sent := true }, ?_, .drive, 0, rfl⟩
  decide

theorem witness_ReserveStream :
    Ready ready0 2 0 ∧ GateOpen ready0 2 ∧ ready0.vom.state = .ready ∧ (ready0.stream 0).isOpen = true ∧
      Ready (gatedBy (.resetOccurred .port) ready0) 0 0 ∧ ¬GateOpen (gatedBy (.resetOccurred .port) ready0) 0 ∧
      Ready run0 0 0 ∧ ((after (.reserveStream 2 0 [0]) ready0).stream 0).holder = some 2 ∧
      Ready (after (.reserveStream 2 0 [0]) ready0) 2 0 ∧ Ready (after (.reserveStream 2 0 [0]) ready0) 1 0 := by decide

theorem witness_ReserveVolume :
    Ready ready0 2 0 ∧ GateOpen ready0 2 ∧ ready0.vom.state = .ready ∧ ready0.srt.volume = none ∧
      Ready (after (.reserveVolume 2 0) ready0) 2 0 ∧ (after (.reserveVolume 2 0) ready0).srt.volume = some 2 ∧
      Ready (after (.reserveVolume 2 0) ready0) 1 0 := by decide

theorem witness_Release : Ready run0 0 3 ∧ Ready (after (.reserveStream 2 0 [0]) ready0) 2 0 := by decide

theorem witness_RemovalLock :
    Ready run0 1 0 ∧ GateOpen run0 1 ∧ Ready ready0 1 0 ∧ GateOpen ready0 1 ∧
      ¬GateOpen (gatedBy (.resetOccurred .port) ready0) 0 := by decide

theorem witness_StatusReads : Ready run0 0 0 := by decide

theorem witness_SetParametersRefused :
    Ready ready0 1 0 ∧ parseRequest 14 [1, 1, 3, 0xE9] = some (.setParameters [(1, 1001)]) ∧
      parseRequest 14 [1, 10, 0, 1] = some (.setParameters [(10, 1)]) ∧
      parseRequest 14 [2, 1, 0, 1, 1, 0, 1] = some (.setParameters [(1, 1), (1, 1)]) ∧
      ¬([((1 : Nat), (1 : Nat)), (1, 1)].map fun q => q.1).Nodup ∧ ¬(1 ≤ (1001 : Nat) ∧ (1001 : Nat) ≤ 1000) ∧
      Ready (after (.reserveVolume 2 0) ready0) 1 0 ∧ (after (.reserveVolume 2 0) ready0).srt.volume = some 2 := by decide

theorem witness_SetParametersApplied :
    Ready ready0 1 0 ∧
      parseRequest 14 [3, 1, 3, 0xE8, 5, 0, 64, 7, 0, 0] = some (.setParameters [(1, 1000), (5, 64), (7, 0)]) ∧
      ([((1 : Nat), (1000 : Nat)), (5, 64), (7, 0)].map fun q => q.1).Nodup ∧
      (∀ q, q ≠ 1 → ready0.srt.volume ≠ some q) ∧ (∀ q, (ready0.cursor q).phase ≠ .starved) ∧
      ready0.vom.remaining = some 4090 ∧ (64 : Int) < 4090 := by decide

def phase3 : State :=
  { testing .phase3 with mpt := { MediumPort.reset with
      link := some { op := .mount, number := 0, issuer := .control }, timer := some 3000, nextOp := 1 } }

theorem witness_StartUpPasses :
    phase3.ctl.test = .phase3 ∧ phase3.signals = [] ∧
      phase3.mpt.link = some { op := .mount, number := 0, issuer := .control } ∧ phase3.mpt.holder = none ∧
      NoneAsks phase3 ∧ phase3.vom = VolumeRecord.unset .none ∧ phase3.ports = Vector.replicate 4 HostPort.reset ∧
      phase3.ntu = Vector.replicate 4 NoticeUnit.reset := by decide

theorem witness_FrameErrors :
    Clear { ready0 with ports := ready0.ports.set 0 { (ready0.port 0).setSlot 0 { TagSlot.idle with state := .queued } with
      errors := 6 } } 0 ∧
      (({ ready0 with ports := ready0.ports.set 0 { (ready0.port 0).setSlot 0 { TagSlot.idle with state := .queued } with
        errors := 6 } } : State).slot 0 0).state ≠ .idle := by decide

def errors7 : State := { ready0 with ports := ready0.ports.set 0 { ready0.port 0 with errors := 7 } }

theorem witness_PortResets :
    Running errors7 ∧ errors7.adu.queue.head? = none ∧ (errors7.cursor 0).buffered = [] ∧
      errors7.mpt.holder ≠ some (.cursor 0) ∧ errors7.ape.yield = false ∧ (errors7.port 0).errors = 7 ∧
      (errors7.port 0).activity ≠ none := by decide

def downPort : State :=
  { run0 with
    ports := run0.ports.set 0 { HostPort.reset with waiting := [.notice 3, .notice 4] }
    ntu := run0.ntu.set 0 { queue := [{ number := 3, body := .portDown PortSet.empty, sent := false },
      { number := 4, body := .resetOccurred .port, sent := false }], counter := 5 } }

def reply0 : Reply :=
  { tag := 1, kind := 16, status := .done, indicators := run0.marks, body := .empty }

def fullPort : State :=
  { run0 with ports := run0.ports.set 0 { (run0.port 0).setSlot 1
      { state := .replying, frame := none, rsn := none, reply := some reply0 } with
        transmit := List.replicate 12 (.reply reply0), waiting := [.reply 1] } }

theorem witness_LinkActivity :
    (Running run0 ∧ (run0.port 0).waiting = [] ∧ (run0.port 0).up = true) ∧
      (Running downPort ∧
        (downPort.port 0).waiting = (downPort.notices 0).queue.map (fun e => .notice e.number) ∧
        ((downPort.notices 0).queue.map fun e => e.number).Nodup ∧ (downPort.port 0).transmit = [] ∧
        (downPort.notices 0).queue.length ≤ 12) ∧
      (Running fullPort ∧ (fullPort.port 0).up = true ∧ (fullPort.port 0).waiting = [.reply 1] ∧
        (fullPort.slot 0 1).reply = some reply0 ∧ (fullPort.port 0).transmit.length = 12) := by decide

theorem witness_PortBoundsKept :
    TransmitBounded fullPort ∧ ErrorsBelow fullPort ∧ PlacedAtOnce fullPort ∧ ∃ t, step fullPort = .next t :=
  ⟨fun p => by revert p; decide, fun p => by revert p; decide, fun p => by revert p; decide, _, rfl⟩

theorem witness_AckNotice :
    Ready { downPort with ports := run0.ports } 0 0 ∧
      (downPort.notices 0).queue = [{ number := 3, body := .portDown PortSet.empty, sent := false }] ++
        { number := 4, body := .resetOccurred .port, sent := false } :: [] ∧
      (∀ x ∈ (downPort.notices 0).queue, x.number ≠ 65535) := by decide

theorem witness_NoticesDistinctKept : NoticesDistinct downPort ∧ ∃ t, step downPort = .next t :=
  ⟨fun p => by revert p; decide, _, rfl⟩

theorem witness_ParametersKept :
    (Instr.getStatus 0 0 []).wf = true ∧ ∃ t, exec (.getStatus 0 0 []) ready0 = .next t := ⟨by decide, _, rfl⟩

theorem witness_ParametersInRange : ready0.params.inRange ∧ ∃ t, step ready0 = .next t :=
  ⟨by unfold Params.inRange; decide, _, rfl⟩

theorem witness_WritingRefused :
    (Ready run0 0 0 ∧ GateOpen run0 0 ∧ run0.adu.queue = [] ∧
      parseRequest (2 : Byte).toNat [] = some (.writing .sync) ∧ run0.writingRefusal 0 .sync = some .notReady) ∧
    (Ready ready0 0 0 ∧ GateOpen ready0 0 ∧ ready0.adu.queue = [] ∧
      parseRequest (1 : Byte).toNat [1, 0, 0, 0] = some (.writing (.append 1 false 0)) ∧
      ready0.writingRefusal 0 (.append 1 false 0) = some .noStream) ∧
    (Ready shut0 0 0 ∧ GateOpen shut0 0 ∧
      parseRequest (5 : Byte).toNat [0] = some (.writing (.closeStream 0)) ∧
      ({ shut0 with vom := { shut0.vom with remaining := some 0 } } : State).writingRefusal 0 (.closeStream 0) =
        some .volumeFull) := by decide

theorem witness_AppendAdmitted :
    AtHead ready0 0 0 ∧ (ready0.stream 0).isOpen = true ∧ Unclaimed ready0 0 0 ∧ (0 : Byte).getLsbD 0 = false ∧
      (List.replicate 1984 (0 : Byte)).length = 1984 ∧ ready0.pool.opened = some open0 ∧ 0 < open0.count ∧
      open0.fill + (16 + 1984 + 7) / 8 * 8 = 2016 ∧ ready0.adu.nextRsn = some 11 := by
  refine ⟨by decide, by decide, by decide, by decide, List.length_replicate, by decide, by decide, by decide, by decide⟩

/-- The part `shut0` with this R and this capacity level. -/
def lowOn (r : Nat) (l : Level) : State :=
  { shut0 with vom := { shut0.vom with appendPoint := some (4096 - r), remaining := some (r : Int), level := some l } }

theorem witness_AppendOpensBlock :
    (AtHead shut0 0 0 ∧ (shut0.stream 0).isOpen = true ∧ Unclaimed shut0 0 0 ∧ shut0.adu.nextRsn = some 11 ∧
      0 < shut0.pool.free ∧ RemainingIs shut0 4091 ∧ LevelStays shut0 (4091 - 1) ∧ shut0.pool.opened = none) ∧
    (AtHead full0 0 0 ∧ (full0.stream 0).isOpen = true ∧ Unclaimed full0 0 0 ∧ RemainingIs full0 4090 ∧
      LevelStays full0 (4090 - 1) ∧ full0.pool.opened = some { open0 with fill := 2000 } ∧
      2016 < 2000 + (16 + 1 + 7) / 8 * 8 ∧ MidWrite full0) ∧
    (AtHead (lowOn 33 .low) 0 0 ∧ Unclaimed (lowOn 33 .low) 0 0 ∧ RemainingIs (lowOn 33 .low) 33) ∧
    (AtHead (lowOn 2049 .normal) 0 0 ∧ RemainingIs (lowOn 2049 .normal) 2049 ∧
      (2049 : Int) - 1 ≤ (lowOn 2049 .normal).params.ewReserve ∧ ((lowOn 2049 .normal).port 0).transmit.length < 11) ∧
    (AtHead (lowOn 33 .normal) 0 0 ∧ RemainingIs (lowOn 33 .normal) 33) :=
  ⟨by decide, by decide, by decide, by decide, by decide⟩

/-- The entry of an APPEND of one byte to a stream, HELD at the head. -/
def heldAppend (x : StreamId) : Entry :=
  { port := 0, tag := 1, request := .append x false 1, deadline := some 2000, held := true }

/-- A part whose head is HELD for a buffer, with one block unverified. -/
def held0 (claim : Option Port) : State :=
  { noFree shut0 with
    adu := { shut0.adu with queue := [heldAppend 0] }
    ports := shut0.ports.set 0 ((shut0.port 0).setSlot 1
      { state := .queued, frame := some { kind := 1, payload := [0, 0, 0, 1, 65] }, rsn := none, reply := none })
    ape := { shut0.ape with unverified := [{
      block := block 3, slot := 3, timer := some 500, passed := false }] }
    srt := { shut0.srt with volume := claim } }

theorem witness_AppendHeld :
    ((AtHead (noFree shut0) 0 0 ∧ ((noFree shut0).stream 0).isOpen = true ∧ Unclaimed (noFree shut0) 0 0 ∧
      (noFree shut0).pool.free = 0 ∧ RemainingIs (noFree shut0) 4091 ∧ (noFree shut0).pool.opened = none) ∧
    (AtHead (noFree full0) 0 0 ∧ Unclaimed (noFree full0) 0 0 ∧ (noFree full0).pool.free = 0 ∧
      RemainingIs (noFree full0) 4090 ∧ MidWrite (noFree full0))) ∧
    ∀ claim, claim = none ∨ claim = some 2 →
      Running (held0 claim) ∧ MidWrite (held0 claim) ∧ (held0 claim).pool.opened = none ∧ (held0 claim).pool.free = 0 ∧
      (held0 claim).ape.unverified = { block := block 3, slot := 3, timer := some 500, passed := false } :: [] ∧
      (block 3).waiters = [] ∧ (∀ p, ((held0 claim).cursor p).state = .closed ∧ ((held0 claim).cursor p).phase = .idle) ∧
      (held0 claim).adu.queue = [heldAppend 0] ∧ CanReply (held0 claim) 0 1 ∧ RemainingIs (held0 claim) 4091 ∧
      LevelStays (held0 claim) (4091 - 1) ∧ (held0 claim).adu.nextRsn = some 11 ∧
      ((held0 claim).slot 0 1).frame =
        some { kind := 1, payload := [BitVec.ofNat 8 0, 0] ++ beBytes 2 [(65 : Byte)].length ++ [65] } ∧
      ({ held0 claim with pool := { (held0 claim).pool with free := 1 } } : State).writingRefusal 0 (.append 0 false 1) =
        if claim = none then none else some .conflict := by
  refine ⟨by decide, ?_⟩
  intro claim h
  rcases h with h | h <;> subst h <;> decide

theorem witness_SyncAppendWaits :
    AtHead ready0 0 0 ∧ (ready0.stream 0).isOpen = true ∧ Unclaimed ready0 0 0 ∧ (1 : Byte).getLsbD 0 = true ∧
      ready0.pool.opened = some open0 ∧ 0 < open0.count ∧ open0.fill + (16 + 1 + 7) / 8 * 8 ≤ 2016 ∧
      ready0.adu.nextRsn = some 11 ∧ ready0.pool.nextBsn = some 5 ∧ (∀ b ∈ ready0.writtenBlocks, b.bsn ≠ 5) ∧
      RemainingIs ready0 4090 ∧ MidWrite ready0 := by decide

theorem witness_SyncRequest :
    (AtHead shut0 0 0 ∧ shut0.adu.nextRsn = some (10 + 1) ∧ shut0.pool.opened = none ∧
      shut0.pool.nextBsn = some (4 + 1) ∧ shut0.vom.frontier = some 3 ∧ MidWrite shut0) ∧
    (({ shut0 with vom := { shut0.vom with frontier := some 4 } } : State).vom.frontier = some 4 ∧ 4 ≤ 4) ∧
    (AtHead ready0 0 0 ∧ ready0.pool.opened = some open0 ∧ ready0.pool.nextBsn = some 5 ∧
      ready0.vom.frontier = some 3 ∧ (∀ b ∈ ready0.writtenBlocks, b.bsn ≠ 5) ∧ RemainingIs ready0 4090 ∧
      MidWrite ready0) := by decide

theorem witness_SetClock :
    AtHead ready0 0 0 ∧ (∀ q, q ≠ 0 → ready0.srt.volume ≠ some q) ∧ ready0.adu.clock = none ∧
      ready0.pool.opened = some open0 ∧ 0 < open0.count ∧ open0.fill + 24 ≤ 2016 ∧ ready0.adu.nextRsn = some 11 := by
  decide

theorem witness_StreamRequests :
    AtHead ready0 0 0 ∧ (∀ q, q ≠ 0 → ready0.srt.volume ≠ some q) ∧ ready0.pool.opened = some open0 ∧ 0 < open0.count ∧
      ready0.adu.nextRsn = some 11 ∧ (ready0.stream 15).isOpen = false ∧ open0.fill + 16 ≤ 2016 ∧
      (ready0.stream 0).isOpen = true ∧ (∀ q, q ≠ 0 → (ready0.stream 0).holder ≠ some q) ∧ open0.fill + 24 ≤ 2016 := by
  decide

/-- The part `queued0` with an APPEND to a stream behind the head. -/
def queued1 (x : StreamId) : State :=
  { queued0 with adu := { queued0.adu with
      queue := [entry 0 1, { entry 1 1 with request := .append x false 1, held := false }] } }

theorem queued1_next_held :
    QueueAfter (queued1 0) [] [{ entry 1 1 with request := .append 0 false 1, held := false }]
      [{ entry 1 1 with request := .append 0 false 1 }] :=
  .inr ⟨_, [], rfl, rfl, by decide, by decide, trivial, by decide, rfl⟩

theorem witness_DeadlineExpiry :
    (queued0.signals = [] ∧ queued0.adu.queue = [entry 0 1] ++ entry 1 1 :: [] ∧
      (∀ x ∈ [entry 0 1] ++ [], ¬(x.port = (entry 1 1).port ∧ x.tag = (entry 1 1).tag)) ∧
      (entry 1 1).deadline ≠ none ∧ CanReply queued0 1 1 ∧
      ({ entry 1 1 with deadline := none } : Entry).deadline = none) ∧
    QueueAfter queued0 [entry 0 1] [] [entry 0 1] ∧
    ((queued1 0).signals = [] ∧ CanReply (queued1 0) 0 1 ∧
      QueueAfter (queued1 0) [] [{ entry 1 1 with request := .append 0 false 1, held := false }]
        [{ entry 1 1 with request := .append 0 false 1 }]) ∧
    (CanReply (queued1 1) 0 1 ∧ CanReply (queued1 1) 1 1 ∧
      (queued1 1).writingRefusal 1 (.append 1 false 1) = some .noStream) :=
  ⟨by decide, .inl ⟨by decide, rfl⟩, ⟨by decide, by decide, queued1_next_held⟩, by decide⟩

def slotState (st : TagState) (r : Option Nat) (s : State) : State :=
  { s with ports := s.ports.set 0 ((s.port 0).setSlot 2 { TagSlot.idle with state := st, rsn := r }) }

theorem witness_AbortRequest :
    (Clear (queued1 0) 0 ∧ ((queued1 0).slot 0 1).state = .queued ∧
      (queued1 0).adu.queue =
        [] ++ entry 0 1 :: [{ entry 1 1 with request := .append 0 false 1, held := false }]) ∧
    (Clear queued0 1 ∧ (queued0.slot 1 1).state = .queued ∧ (queued0.port 1).transmit.length < 12 ∧
      queued0.adu.queue = [entry 0 1] ++ entry 1 1 :: []) ∧
    (Clear (slotState .waitingDurable (some 9) ready0) 0 ∧
      ((slotState .waitingDurable (some 9) ready0).slot 0 2).state = .waitingDurable) ∧
    (Clear (withCursor { filling0 with next := some 2 } (slotState .pending none ready0)) 0 ∧
      ((withCursor { filling0 with next := some 2 } (slotState .pending none ready0)).slot 0 2).state = .pending ∧
      ((withCursor { filling0 with next := some 2 } (slotState .pending none ready0)).cursor 0).next = some 2) ∧
    (Clear ready0 0 ∧ (ready0.slot 0 2).state = .idle) ∧
    (Clear (slotState .replying none ready0) 0 ∧ ((slotState .replying none ready0).slot 0 2).state = .replying) ∧
    (((slotState .pending none ready0).slot 0 2).state = .pending ∧
      ((slotState .pending none ready0).cursor 0).next ≠ some 2) := by decide

theorem witness_ClockTick : ready0.signals = [] := by decide

def clocked : State := { ready0 with adu := { ready0.adu with clock := some 281474976710655 }, pending := [.journalClockTick] }

theorem witness_ClockNeverBack : ClockBounded clocked ∧ clocked.adu.clock = some 281474976710655 ∧
    clocked.pending.head? ≠ some .resetNAsserted ∧ ∃ t, step clocked = .next t := by
  refine ⟨⟨?_, ?_⟩, by decide, by decide, _, rfl⟩
  · intro v h
    cases h
    decide
  · intro e he
    cases he

theorem witness_SealTimer :
    (ready0.signals = [] ∧ ready0.pool.opened = some open0 ∧ open0.sealTimer ≠ none ∧ open0.firstRsn = some 10 ∧
      ready0.pool.nextBsn = some 5 ∧ ready0.vom.session = some 1 ∧ ready0.vom.serial = some 7 ∧
      RemainingIs ready0 4090 ∧ MidWrite ready0) ∧ shut0.pool.opened = none := by decide

theorem witness_AgeStartsBurst :
    idle0.signals = [] ∧ idle0.pool.sealed = { block 4 with ageTimer := some 150 } :: [] ∧ idle0.ape.state = .idle ∧
      idle0.ape.inWrite = none ∧ idle0.ape.unverified.length < 3 ∧ idle0.ape.yield = false ∧ idle0.vom.state = .ready ∧
      idle0.vom.appendPoint = some 5 ∧ idle0.vom.capacity = some 4096 ∧ RemainingIs idle0 4090 ∧
      idle0.mpt.holder = none ∧ idle0.mpt.link = none ∧ NoneAsks idle0 ∧ idle0.mpt.head = some 5 ∧
      ({ idle0 with mpt := { idle0.mpt with head := none } } : State).mpt.head ≠ some 5 := by decide

def sealedToo : State :=
  { ready0 with pool := { ready0.pool with sealed := [block 5] }, vom := { ready0.vom with remaining := some 4089 } }

/-- The yield signal stands, and the cursors of ports 1 and 3 wait. -/
def yielding : State :=
  { ready0 with
    ape := { ready0.ape with yield := true }
    mpt := { ready0.mpt with burstLimit := some 1, cursorWaits := (PortSet.empty.set 1 true).set 3 true, lastServed := 1 }
    cursors := ready0.cursors.set 3 { Cursor.reset with
      state := .filling, phase := .asking, readPos := some 0, filter := { streams := 1, part := false } } }

/-- A write of block n marked stale, with block 5 back in the queue. -/
def staleWrite (n : Nat) : State :=
  { sealedToo with ape := { sealedToo.ape with inWrite := some { block := block n, slot := 4, stale := true } } }

theorem witness_WriteEnds :
    (ready0.signals = [] ∧ ready0.mpt.link = some { op := .write 4 [], number := 9, issuer := .engine } ∧
      ready0.mpt.holder = some .engine ∧ NoneAsks ready0 ∧ ready0.ape.state = .running ∧ ready0.ape.yield = false ∧
      ready0.ape.inWrite = some { block := block 4, slot := 4, stale := false } ∧ ready0.vom.state = .ready ∧
      ready0.vom.appendPoint = some (4 + 1) ∧ ready0.vom.capacity = some 4096 ∧ RemainingIs ready0 4090 ∧
      ready0.pool.sealed = [] ∧ (block 4).attempts + 1 < 10 ∧ ready0.ape.unverified.length < 2 ∧
      LevelStays ready0 (4090 - 1)) ∧
    (sealedToo.pool.sealed = block 5 :: [] ∧ RemainingIs sealedToo 4089 ∧ NoneAsks sealedToo) ∧
    (yielding.signals = [] ∧ yielding.ape.yield = true ∧ RemainingIs yielding 4090 ∧ yielding.mpt.volumeWaits = false ∧
      yielding.mpt.engineWaits = false ∧ yielding.mpt.burstLimit = some 1 ∧ 1 ≤ yielding.mpt.writes ∧
      yielding.mpt.cursorWaits[(3 : Port)] = true ∧
      (∀ r : Port, yielding.mpt.cursorWaits[r] = true →
        (3 - yielding.mpt.lastServed - 1).val ≤ (r - yielding.mpt.lastServed - 1).val) ∧
      (yielding.cursor 3).phase = .asking ∧ (yielding.cursor 3).readPos = some 0 ∧ 0 ≠ 4 + 1 ∧
      (yielding.cursor 3).buffered.length < yielding.params.readahead ∧ yielding.vom.frontierSlot = some 3 ∧
      (yielding.cursor 3).hold = none) ∧
    (∀ n ∈ [4, 5, 6], (staleWrite n).signals = [] ∧ (staleWrite n).mpt.holder = some .engine ∧
      (staleWrite n).ape.inWrite = some { block := block n, slot := 4, stale := true } ∧ NoneAsks (staleWrite n) ∧
      (staleWrite n).ape.yield = false ∧ (staleWrite n).ape.unverified.length < 3 ∧ RemainingIs (staleWrite n) 4089 ∧
      LevelStays (staleWrite n) (4089 - 1)) ∧
    ((staleWrite 6).pool.sealed = [block 5] ++ [] ∧ (block 5).bsn < (block 6).bsn ∧
      (staleWrite 5).pool.sealed = [] ++ [block 5] ∧ (block 5).bsn ≤ (block 5).bsn ∧ (block 4).bsn ≤ (block 5).bsn) :=
  ⟨by decide, by decide, by decide, by decide, by decide⟩

/-- Blocks 4 and 5 with sync waiters. -/
def waited : State :=
  { slotState .waitingDurable (some 9) verify0 with ape := { verify0.ape with
      unverified := [{ unverified 4 4 false with block := { block 4 with waiters := [(0, 2)] } }, unverified 5 5 true] } }

/-- The last blocks of a burst are unverified and nothing else is staged. -/
def burstEnding (st : VolState) (running : Bool) : State :=
  { verify0 with
    pool := { free := 45, opened := none, sealed := [], nextBsn := some 6 }
    vom := { verify0.vom with state := st }
    ape := { state := if running then .running else .yielded, inWrite := none, yield := false
             unverified := [unverified 4 4 false, unverified 5 5 true] }
    mpt := { verify0.mpt with
      link := if running then none else some { op := .seek 2, number := 9, issuer := .closedCursor 0 }
      holder := if running then some .engine else none, engineWaits := !running } }

theorem witness_BurstEnds :
    ∀ st ∈ [VolState.ready, .draining], ∀ running, Running (burstEnding st running) ∧
      (burstEnding st running).ape.unverified = unverified 4 4 false :: ([unverified 5 5 true] ++ []) ∧
      (∀ p, ((burstEnding st running).cursor p).state = .closed ∧ ((burstEnding st running).cursor p).phase = .idle) ∧
      NoneWaits (burstEnding st running) ∧ (burstEnding st running).vom.state = st ∧
      (running = true → (burstEnding st running).ape.state = .running ∧
        (burstEnding st running).mpt.holder = some .engine ∧ (burstEnding st running).mpt.link = none ∧
        NoneAsks (burstEnding st running)) ∧
      (running = false → (burstEnding st running).ape.state = .yielded ∧ (burstEnding st running).mpt.holder = none ∧
        (burstEnding st running).mpt.link ≠ none ∧ ∀ q : Port, (burstEnding st running).mpt.cursorWaits[q] = false) := by
  decide

theorem waited_placed : PlacedAtOnce waited := fun p => by revert p; decide

theorem witness_VerifyPasses :
    (Running verify0 ∧ verify0.ape.unverified = unverified 4 4 false :: ([unverified 5 5 true] ++ []) ∧
      (∀ p, (verify0.cursor p).state = .closed ∧ (verify0.cursor p).phase = .idle) ∧ NoneWaits verify0 ∧
      MidWrite verify0) ∧
    ((4#32).toNat = 4 ∧ (unverified 4 4 false).slot = 4 ∧ (unverified 4 4 false).block.waiters = [] ∧
      (unverified 5 5 true).passed = true ∧ (unverified 5 5 true).block.waiters = []) ∧
    (Running waited ∧ NoneWaits waited ∧ MidWrite waited ∧
      waiterTags 0 (waited.ape.unverified.map fun v => v.block) = [2] ∧ RepliesFit waited 0 [2] 0) ∧
    (verify0.ape.unverified.find? (fun v => v.slot == (5#32).toNat) = some (unverified 5 5 true)) ∧
    (verify0.ape.unverified.find? (fun v => v.slot == (9#32).toNat) = none) ∧
    (({ verify0 with ape := { verify0.ape with unverified := [unverified 4 4 false, unverified 5 5 false] } } :
      State).ape.unverified = unverified 4 4 false :: ([] ++ unverified 5 5 false :: [])) := by decide

theorem witness_VerifyRelocates :
    Running verify0 ∧ verify0.ape.unverified = [] ++ unverified 4 4 false :: [unverified 5 5 true] ∧
      (unverified 4 4 false).slot = (4#32).toNat ∧ (unverified 4 4 false).block.attempts + 1 < 10 ∧ MidWrite verify0 ∧
      verify0.vom.counting = true ∧ RemainingIs verify0 4088 ∧ LevelStays verify0 (4088 - (1 + 1)) ∧
      (unverified 4 4 false).passed = false ∧ (unverified 4 4 false).timer ≠ none := by decide

def ninth : Unverified := { unverified 6 6 false with block := { block 6 with attempts := 9 } }

def failing : State :=
  { ready0 with
    vom := { ready0.vom with appendPoint := some 7, remaining := some 4088 }
    ape := { state := .running, unverified := [unverified 4 4 false, unverified 5 5 true, ninth], inWrite := none
             yield := false }
    mpt := { ready0.mpt with link := none, timer := none } }

/-- A block sealed and no slot left, with an entry in the admission queue and a sync waiter, both of port 0. -/
def noSlot : State :=
  { sealedToo with
    vom := { sealedToo.vom with appendPoint := some 4096 }
    adu := { sealedToo.adu with queue := [entry 0 1] }
    ports := sealedToo.ports.set 0 (((sealedToo.port 0).setSlot 1 { TagSlot.idle with state := .queued }).setSlot 2
      { TagSlot.idle with state := .waitingDurable, rsn := some 9 })
    ape := { sealedToo.ape with
      inWrite := some { block := { block 4 with waiters := [(0, 2)] }, slot := 4, stale := false } } }

theorem witness_TenthFailureFaults :
    (Running failing ∧ failing.ape.unverified = [unverified 4 4 false, unverified 5 5 true] ++ ninth :: [] ∧
      ninth.slot = (6#32).toNat ∧ (∀ x ∈ [unverified 4 4 false, unverified 5 5 true], x.slot ≠ (6#32).toNat) ∧
      RemainingIs failing 4088 ∧ LevelStays failing (4088 - (1 + 0)) ∧ ninth.passed = false ∧ ninth.block.attempts = 9 ∧
      failing.vom.state = .ready ∧ failing.vom.unload = none ∧ failing.vom.lost = some 0 ∧
      (∀ p, (failing.cursor p).phase ≠ .starved) ∧ NoneAsks failing ∧ failing.mpt.holder = some .engine ∧ failing.mpt.link = none ∧
      (∀ b ∈ failing.writtenBlocks, b.waiters = [])) ∧
    (Running noSlot ∧ noSlot.vom.state = .ready ∧ noSlot.vom.unload = none ∧ noSlot.vom.lost = some 0 ∧
      (∀ p, (noSlot.cursor p).phase ≠ .starved) ∧ NoneAsks noSlot ∧ noSlot.mpt.holder = some .engine ∧
      noSlot.mpt.link = some { op := .write 4 [], number := 9, issuer := .engine } ∧ noSlot.ape.state = .running ∧
      (noSlot.ape.inWrite.map fun w => w.stale) = some false ∧ noSlot.ape.yield = false ∧
      noSlot.ape.unverified.length < 2 ∧ noSlot.pool.sealed ≠ [] ∧ noSlot.vom.appendPoint = noSlot.vom.capacity) ∧
    (noSlot.queuedTags 0 = [1] ∧ waiterTags 0 (sortBlocks noSlot.writtenBlocks) = [2] ∧ RepliesFit noSlot 0 ([1] ++ [2]) 1 ∧
      (∀ e ∈ (noSlot.notices 0).queue, e.body.code ≠ 5)) :=
  ⟨by decide, by decide, by decide⟩

theorem witness_BuffersDividedKept :
    BuffersKept ready0 ∧ WritesBounded failing ∧ (∃ t, step ready0 = .next t) ∧ ∃ t, step failing = .next t := by
  refine ⟨⟨by decide, ?_⟩, by unfold WritesBounded; decide, ⟨_, rfl⟩, _, rfl⟩
  intro p _
  refine ⟨by revert p; decide, by revert p; decide, ?_⟩
  intro o h
  cases h
  simp

theorem witness_CompletionsDiscarded :
    ready0.signals = [] ∧ run0.signals = [] ∧ run0.mpt.link = none ∧
      ready0.mpt.link = some { op := .write 4 [], number := 9, issuer := .engine } ∧ (9 : Byte) ≠ 10 := by decide

theorem witness_OperationFails :
    ((doing (.seek 3) .volume .volume run0).signals = [] ∧
      (doing (.seek 3) .volume .volume run0).mpt.link = some { op := .seek 3, number := 9, issuer := .volume } ∧
      (doing (.seek 3) .volume .volume run0).mpt.timer ≠ none ∧ (doing (.seek 3) .volume .volume run0).mpt.retry = false ∧
      (doing (.seek 3) .volume .volume run0).ctl.test = .running) ∧
    (ready0.mpt.link = some { op := .write 4 [], number := 9, issuer := .engine } ∧ ready0.mpt.timer ≠ none) ∧
    (phase3.mpt.link = some { op := .mount, number := 0, issuer := .control } ∧ phase3.mpt.timer ≠ none) ∧
    ((doing .findEnd .volume .volume (loading .seekingEnd)).vom.capacity = some 4096 ∧
      4096 < (4097#32).toNat ∧ (doing .findEnd .volume .volume (loading .seekingEnd)).signals = []) := by decide

theorem witness_DriveFault :
    (run0.signals = [] ∧ run0.ctl.test = .running ∧ run0.adu.queue = [] ∧ run0.vom.unload = none ∧
      run0.vom.state = .none ∧ run0.mpt.link = none) ∧
    (ready0.vom.state ≠ .none ∧ ready0.vom.cause ≠ some .drive ∧ (∀ b ∈ ready0.writtenBlocks, b.waiters = []) ∧
      (∀ p, ((ready0.cursor p).state = .closed ∨ (ready0.cursor p).state = .failed) ∧ (ready0.cursor p).phase = .idle) ∧
      (ready0.mpt.link.all fun o => !o.holdsBuffer) = true) ∧
    phase3.ctl.test = .phase3 := by decide

theorem witness_Mounts :
    (Running run0 ∧ run0.vom.state = .none ∧ run0.mpt.holder = none ∧ run0.mpt.link = none ∧
      run0.mpt.volumeWaits = false) ∧ (Running ready0 ∧ ready0.vom.state ≠ .none) ∧
    ((doing .mount .volume .volume (loading .mounting)).signals = [] ∧
      (doing .mount .volume .volume (loading .mounting)).vom.state = .mounting ∧
      (doing .mount .volume .volume (loading .mounting)).mpt.link =
        some { op := .mount, number := 9, issuer := .volume } ∧
      (doing .mount .volume .volume (loading .mounting)).mpt.holder = some .volume ∧
      NoneAsks (doing .mount .volume .volume (loading .mounting)) ∧
      4096 ≤ (4096#32).toNat ∧ (16777216#32).toNat ≤ 16777216 ∧ (4095#32).toNat < 4096 ∧
      16777216 < (16777217#32).toNat) := by decide

theorem witness_EndFound :
    (doing .findEnd .volume .volume (loading .seekingEnd)).signals = [] ∧
      (doing .findEnd .volume .volume (loading .seekingEnd)).vom.state = .seekingEnd ∧
      (doing .findEnd .volume .volume (loading .seekingEnd)).mpt.link =
        some { op := .findEnd, number := 9, issuer := .volume } ∧
      (doing .findEnd .volume .volume (loading .seekingEnd)).mpt.holder = some .volume ∧
      NoneAsks (doing .findEnd .volume .volume (loading .seekingEnd)) ∧
      (doing .findEnd .volume .volume (loading .seekingEnd)).vom.capacity = some 4096 ∧
      (doing .findEnd .volume .volume (loading .seekingEnd)).vom.serial = some 7 ∧
      (4096#32).toNat ≤ 4096 ∧ 0 < (1#32).toNat ∧ (0#32).toNat = 0 ∧
      (doing .findEnd .volume .volume (loading .seekingEnd)).pool.opened = none ∧
      (doing .findEnd .volume .volume (loading .seekingEnd)).vom.remaining = none ∧
      (doing .findEnd .volume .volume (loading .seekingEnd)).params.ewReserve < 4096 - 1 := by decide

def seeking : State := doing (.seek 2) (.cursor 0) (.cursor 0) (withCursor filling0 shut0)

/-- A cursor whose take the pool refuses, with or without an engine that YIELDED and waits. -/
def starving (waits : Bool) : State :=
  { seeking with
    pool := { seeking.pool with free := 8, sealed := [block 5] }
    ape := { seeking.ape with state := .yielded }
    mpt := { seeking.mpt with engineWaits := waits } }

/-- An operation of a cursor that has been closed is outstanding, of a volume in this state; the Volume Manager waits or not. -/
def closedOp (op : DriveOp) (st : VolState) (waits : Bool) : State :=
  { doing op (.closedCursor 0) .volume shut0 with
    vom := { shut0.vom with state := st }
    mpt := { (doing op (.closedCursor 0) .volume shut0).mpt with holder := none, volumeWaits := waits } }

theorem witness_ClosedSeek :
    (∀ x ∈ [(VolState.ready, false), (.ejecting, true)], (closedOp (.seek 2) x.1 x.2).signals = [] ∧
      (closedOp (.seek 2) x.1 x.2).mpt.link = some { op := .seek 2, number := 9, issuer := .closedCursor 0 } ∧
      (closedOp (.seek 2) x.1 x.2).mpt.holder = none ∧ (closedOp (.seek 2) x.1 x.2).mpt.volumeWaits = x.2 ∧
      (closedOp (.seek 2) x.1 x.2).vom.state = x.1) ∧
    NoneAsks (closedOp (.seek 2) .ready false) := by decide

theorem witness_SeekDone :
    (∀ waits, (starving waits).signals = [] ∧
      (starving waits).mpt.link = some { op := .seek 2, number := 9, issuer := .cursor 0 } ∧
      (starving waits).mpt.holder = some (.cursor 0) ∧ ((starving waits).cursor 0).phase = .reading ∧
      ((starving waits).cursor 0).state = .filling ∧ (starving waits).vom.state = .ready ∧
      ¬((starving waits).params.stagingFloor + 1 ≤ (starving waits).pool.free) ∧
      (starving waits).vom.appendPoint = some 5 ∧ (starving waits).ape.state = .yielded ∧
      (starving waits).mpt.volumeWaits = false ∧ (starving waits).mpt.engineWaits = waits ∧
      (∀ q : Port, (starving waits).mpt.cursorWaits[q] = false)) ∧
    ((doing (.seek 0) .volume .volume { loading .seekingEnd with scratch := { Scratch.reset with slot := some 0 } }).signals
        = [] ∧
      NoneAsks (doing (.seek 0) .volume .volume { loading .seekingEnd with
        scratch := { Scratch.reset with slot := some 0 } })) ∧
    (({ doing (.seek 5) .engine .engine idle0 with ape := { Engine.reset with state := .positioning } } : State).pool.sealed
        = { block 4 with ageTimer := some 150 } :: [] ∧
      RemainingIs { doing (.seek 5) .engine .engine idle0 with ape := { Engine.reset with state := .positioning } } 4090 ∧
      idle0.vom.appendPoint = some 5 ∧ idle0.vom.capacity = some 4096) ∧
    (seeking.signals = [] ∧ NoneAsks seeking ∧ seeking.mpt.link = some { op := .seek 2, number := 9, issuer := .cursor 0 } ∧
      seeking.mpt.holder = some (.cursor 0) ∧ (seeking.cursor 0).phase = .reading ∧ (seeking.cursor 0).readPos = some 2 ∧
      (seeking.cursor 0).inUse = some 1 ∧ (seeking.cursor 0).buffered.length < 1 ∧ (seeking.cursor 0).reads < 8 ∧
      seeking.vom.frontier = some 3 ∧ seeking.vom.frontierSlot = some 3 ∧ (seeking.cursor 0).hold = none ∧
      seeking.params.stagingFloor + 1 ≤ seeking.pool.free ∧ seeking.replayCount < seeking.params.replayLimit) := by decide

/-- The tail read of a volume with P at 40, at the given slot. -/
def tail0 (n : Nat) (best : Option Candidate) (hi : Option Nat) : State :=
  doing (.read n) .volume .volume { loading .seekingEnd with
    vom := { (loading .seekingEnd).vom with appendPoint := some 40 }
    scratch := { slot := some n, image := [], best := best, highest := hi } }

/-- A READY volume whose grant is free. -/
def resting : State := { idle0 with pool := { idle0.pool with sealed := [] } }

theorem witness_UnloadEjects :
    (∀ s ∈ [loading .rejected, { loading .faulted with vom := { (loading .faulted).vom with cause := some .attempts } },
        { loading .faulted with vom := { (loading .faulted).vom with cause := some .noSpace } }, resting],
      Ready s 0 0 ∧ GateOpen s 0 ∧ (∀ q : Port, q ≠ 0 → s.srt.volume ≠ some q ∧ s.srt.locks[q] = false) ∧
        s.mpt.holder = none ∧ s.mpt.link = none ∧ s.mpt.volumeWaits = false) ∧
    (resting.vom.state = .ready ∧ resting.adu.queue = [] ∧ resting.ape.state = .idle ∧ resting.pool.opened = none ∧
      resting.writtenBlocks = []) ∧
    (({ resting with mpt := { resting.mpt with holder := some (.cursor 1) } } : State).mpt.holder ≠ some .volume) := by
  decide

theorem witness_UnloadRequest :
    (Ready run0 0 0 ∧ GateOpen run0 0 ∧ run0.vom.state = .none) ∧
    (Ready (loading .rejected) 0 0 ∧ GateOpen (loading .rejected) 0 ∧ (loading .rejected).vom.state = .rejected ∧
      (∀ q : Port, q ≠ 0 → (loading .rejected).srt.volume ≠ some q ∧ (loading .rejected).srt.locks[q] = false) ∧
      (loading .rejected).mpt.holder = none ∧ (loading .rejected).mpt.link = none) ∧
    (Ready ready0 0 0 ∧ GateOpen ready0 0 ∧ ready0.vom.state = .ready ∧
      (∀ q : Port, q ≠ 0 → ready0.srt.volume ≠ some q ∧ ready0.srt.locks[q] = false) ∧ ready0.adu.queue = [] ∧
      ready0.pool.opened = some open0 ∧ RemainingIs ready0 4090 ∧ MidWrite ready0) := by decide

def ejecting0 : State :=
  slotState .pending none (doing .eject .volume .volume { loading .ejecting with
    vom := { (loading .ejecting).vom with
      unload := some { port := 0, tag := 2, faultFlag := false, owed := true }, highestRsn := some 8 } })

theorem witness_Ejected :
    ejecting0.signals = [] ∧ ejecting0.vom.state = .ejecting ∧
      ejecting0.mpt.link = some { op := .eject, number := 9, issuer := .volume } ∧
      ejecting0.mpt.holder = some .volume ∧ NoneAsks ejecting0 ∧
      (∀ q, (ejecting0.cursor q).state = .closed ∨ (ejecting0.cursor q).state = .failed) ∧
      ejecting0.vom.unload = some { port := 0, tag := 2, faultFlag := false, owed := true } ∧ CanReply ejecting0 0 2 := by
  decide

/-- A READY volume with an entry in the admission queue and a sync waiter, both of port 0. -/
def leaving : State :=
  { slotState .waitingDurable (some 9) ready0 with
    adu := { ready0.adu with queue := [entry 0 1] }
    ports := ready0.ports.set 0 (((ready0.port 0).setSlot 1 { TagSlot.idle with state := .queued }).setSlot 2
      { TagSlot.idle with state := .waitingDurable, rsn := some 9 })
    ape := { ready0.ape with
      inWrite := some { block := { block 4 with waiters := [(0, 2)] }, slot := 4, stale := false } } }

/-- A drain whose UNLOAD came from port 0. -/
def draining0 : State :=
  slotState .pending none { ready0 with vom := { ready0.vom with
    state := .draining, unload := some { port := 0, tag := 2, faultFlag := false, owed := true } } }

theorem witness_CartridgeRemoved :
    (∀ s ∈ [run0, loading .mounting, loading .rejected, leaving, draining0, ejecting0,
        { loading .faulted with vom := { (loading .faulted).vom with cause := some .drive } }],
      Running s ∧ (∀ p, ((s.cursor p).state = .closed ∨ (s.cursor p).state = .failed) ∧ (s.cursor p).phase = .idle) ∧
        (s.mpt.link.all fun o => !o.holdsBuffer) = true) ∧
    (leaving.vom.state = .ready ∧ leaving.queuedTags 0 = [1] ∧ waiterTags 0 (sortBlocks leaving.writtenBlocks) = [2] ∧
      leaving.vom.unload = none ∧ RepliesFit leaving 0 ([1] ++ [2] ++ []) 1 ∧
      (∀ e ∈ (leaving.notices 0).queue, e.body.code ≠ 4)) ∧
    (draining0.vom.state = .draining ∧ draining0.queuedTags 0 = [] ∧ RepliesFit draining0 0 ([] ++ [] ++ [2]) 1 ∧
      draining0.vom.unload = some { port := 0, tag := 2, faultFlag := false, owed := true }) ∧
    (ejecting0.vom.unload = some { port := 0, tag := 2, faultFlag := false, owed := true } ∧
      RepliesFit ejecting0 0 [2] 0) ∧
    PlacedAtOnce ejecting0 :=
  ⟨by decide, by decide, by decide, by decide, fun p => by revert p; decide⟩

/-- R165, R94: the LOST reply to a sync waiter carries its recorded RSN. -/
theorem test_lost_carries_rsn :
    ((dropStaging leaving).port 0).transmit = [leaving.replyTo 0 .lost (.rsn (some 9)) false 2] := by decide

theorem witness_LineLawfulAlways : ∃ t, exec .sealTimerExpiry ready0 = .next t := ⟨_, rfl⟩

theorem witness_ReplayOpen :
    parseRequest 11 [1, 0, 0, 0, 0, 0, 1, 0] = some (.replayOpen .first { streams := 1, part := false }) ∧
      parseRequest 11 [2, 0, 0, 0, 3, 0, 1, 0] = some (.replayOpen (.slot 3) { streams := 1, part := false }) ∧
      parseRequest 11 [2, 0, 0, 0, 4, 0, 1, 0] = some (.replayOpen (.slot 4) { streams := 1, part := false }) ∧
      parseRequest 11 [1, 0, 0, 0, 0, 0, 0, 0] = some (.replayOpen .first { streams := 0, part := false }) ∧
    (Ready run0 0 0 ∧ GateOpen run0 0 ∧ run0.vom.state = .none) ∧
    (Ready ready0 0 0 ∧ GateOpen ready0 0 ∧ (ready0.cursor 0).state = .closed ∧ ready0.vom.state = .ready ∧
      ready0.vom.frontier = some 3 ∧ ready0.vom.frontierSlot = some 3 ∧ ready0.mpt.holder = some .engine ∧
      ready0.mpt.waits (.cursor 0) = false ∧ ready0.mpt.burstLimit = some 32 ∧ ready0.mpt.writes < 32 ∧
      1 ≤ ready0.params.readahead) ∧
    (Ready resting 0 0 ∧ GateOpen resting 0 ∧ (resting.cursor 0).state = .closed ∧ resting.vom.frontierSlot = some 3 ∧
      resting.mpt.holder = none ∧ resting.mpt.link = none ∧ resting.mpt.waits (.cursor 0) = false ∧
      resting.mpt.head ≠ some 3) ∧
    (Ready (withCursor { filling0 with phase := .asking, next := some 2 } (slotState .pending none ready0)) 0 0 ∧
      (filling0.state ≠ .closed ∧ ready0.ape.yield = false ∧ ready0.adu.queue = [] ∧
        ((slotState .pending none ready0).slot 0 2).state ≠ .idle)) ∧
    (Ready { ready0 with vom := { ready0.vom with frontier := none, frontierSlot := none } } 0 0) := by decide

def buffered (n : Nat) : Buffered := { image := [], slot := n, gap := n == 0 }

theorem witness_ReplayNext :
    (Ready ready0 0 0 ∧ GateOpen ready0 0 ∧ (ready0.cursor 0).state = .closed) ∧
    (Ready (withCursor { Cursor.reset with state := .failed } ready0) 0 0) ∧
    (Ready (withCursor { filling0 with state := .ready, buffered := [buffered 0, buffered 1, buffered 2] } ready0) 0 0 ∧
      NoneWaits (withCursor { filling0 with state := .ready, buffered := [buffered 0, buffered 1, buffered 2] } ready0)) ∧
    (Ready (withCursor { Cursor.reset with state := .atFrontier, readPos := some 4 } ready0) 0 0 ∧
      ready0.vom.frontierSlot = some 3) ∧
    (Ready (withCursor filling0 ready0) 0 0 ∧ filling0.phase ≠ .idle ∧ filling0.next = none) ∧
    (Ready (withCursor { filling0 with next := some 3 } ready0) 0 0) := by decide

theorem witness_ReplayClose :
    (Ready ready0 0 0 ∧ (ready0.cursor 0).state = .closed) ∧
    (Ready (withCursor { filling0 with state := .ready, phase := .idle, buffered := [buffered 0] } ready0) 0 0 ∧
      ready0.mpt.holder ≠ some (.cursor 0) ∧ ready0.ape.yield = false ∧ ready0.adu.queue = [] ∧
      ∀ q, (ready0.cursor q).phase ≠ .starved) := by decide

/-! ### A block as it is written and read back -/

/-- A block with one DATA record of stream 0, its CRC as the seal computes it. -/
def written0 : Block :=
  sealedBlock { records := [{ rsn := 7, timestamp := 0, payload := [65], stream := 0, kind := .data, origin := 0
                              clockUnset := true, sync := false }],
                count := 1, fill := 24, firstRsn := some 7, sealDelay := 40, sealTimer := none } .timer 2 1 7 150

theorem witness_BlockReadsBack :
    written0.bsn < 4294967296 ∧ written0.session < 65536 ∧ written0.count < 256 ∧ written0.firstRsn < 281474976710656 ∧
      (∀ r ∈ written0.records, r.payload.length ≤ 2000) ∧
      written0.fill = (written0.records.map fun r => footprint r.payload.length).sum ∧ written0.fill ≤ 2016 ∧
      written0.crc = crc32 (headerBytes written0.bsn written0.session written0.cause written0.count written0.fill
        written0.firstRsn written0.serial ++ areaBytes written0.records) :=
  ⟨by decide, by decide, by decide, by decide, by decide, by decide, by decide, rfl⟩

/-- A sealed block reads back GOOD with its header (R7, R182). -/
theorem test_classify_written :
    classify written0.image = .good { bsn := 2, session := 1, count := 1, fill := 24, firstRsn := 7 } := by
  refine (classify_parts _ _ written0.crc (by decide) ?_ (by decide) rfl).trans (by decide)
  decide +kernel

/-- The bytes of `written0` are a GOOD slot, and none at all are a BAD one. -/
theorem written0_ends (k : Byte) :
    ReadEnds k (.readDone k written0.image)
      (some { bsn := 2, session := 1, count := 1, fill := 24, firstRsn := 7 }) (some written0.image) :=
  .inr ⟨_, rfl, rfl, .inr ⟨_, rfl, test_classify_written⟩⟩

theorem empty_ends (k : Byte) : ReadEnds k (.readDone k []) none (some []) :=
  .inr ⟨_, rfl, rfl, .inl ⟨rfl, fun h e => by
    rw [show classify [] = .bad by decide] at e
    cases e⟩⟩

theorem blank_ends (k : Byte) : ReadEnds k (.blank k) none none := .inl ⟨rfl, rfl, .inl rfl⟩

def best0 : Candidate := { bsn := 1, slot := 3, firstRsn := 5, count := 1 }

theorem witness_TailReads :
    (∀ best hi, (tail0 8 best hi).signals = [] ∧ (tail0 8 best hi).vom.state = .seekingEnd ∧
      (tail0 8 best hi).mpt.link = some { op := .read 8, number := 9, issuer := .volume } ∧
      (tail0 8 best hi).mpt.holder = some .volume ∧ NoneAsks (tail0 8 best hi) ∧
      (tail0 8 best hi).vom.appendPoint = some 40) ∧
    (38 + 1 < 40 ∧ ReadEnds 9 (.blank 9) none none ∧ ReadEnds 9 (.readDone 9 []) none (some []) ∧
      ReadEnds 9 (.readDone 9 written0.image)
        (some { bsn := 2, session := 1, count := 1, fill := 24, firstRsn := 7 }) (some written0.image)) ∧
    (40 ≤ 39 + 1 ∧ ((tail0 39 none none).scratch.seen 39 none (some [])).best = none) ∧
    (((tail0 39 (some best0) (some 65535)).scratch.seen 39 none none).best = some best0 ∧
      ((tail0 39 (some best0) (some 65535)).scratch.seen 39 none none).highest = some 65535) ∧
    (((tail0 39 none none).scratch.seen 39
        (some { bsn := 2, session := 1, count := 1, fill := 24, firstRsn := 281474976710655 }) (some [])).best.map
        fun c => c.firstRsn + c.count - 1) = some 281474976710655 := by
  refine ⟨fun best hi => ⟨rfl, rfl, rfl, rfl, ⟨rfl, rfl, ?_⟩, rfl⟩, ⟨by decide, blank_ends 9, empty_ends 9, written0_ends 9⟩,
    by decide, by decide, by decide⟩
  show ∀ p : Port, MediumPort.reset.cursorWaits[p] = false
  decide

/-- R13, R103: a volume rejected after its tail read has no P. -/
theorem test_rejected_no_append_point :
    (after (.blank 9) (tail0 39 none none)).vom.appendPoint = none ∧
      (after (.blank 9) (tail0 39 none none)).vom.capacity = some 4096 := by decide

theorem witness_SessionAfterTail :
    (tail0 39 (some best0) (some 65534)).signals = [] ∧
      (tail0 39 (some best0) (some 65534)).vom.state = .seekingEnd ∧
      NoneAsks (tail0 39 (some best0) (some 65534)) ∧
      (tail0 39 (some best0) (some 65534)).vom.capacity = some 4096 ∧
      (tail0 39 (some best0) (some 65534)).vom.serial = some 7 ∧ ReadEnds 9 (.readDone 9 []) none (some []) ∧
      ((tail0 39 (some best0) (some 65534)).scratch.seen 39 none (some [])).best = some best0 ∧
      ((tail0 39 (some best0) (some 65534)).scratch.seen 39 none (some [])).highest = some 65534 ∧
      best0.firstRsn + best0.count - 1 ≠ 281474976710655 ∧
      (tail0 39 (some best0) (some 65534)).pool.opened = none ∧
      (tail0 39 (some best0) (some 65534)).vom.remaining = none ∧ (2048 : Int) < 4096 - 40 - 1 :=
  ⟨by decide, by decide, by decide, by decide, by decide, empty_ends 9, by decide, by decide, by decide, by decide,
    by decide, by decide⟩

theorem test_select_written :
    ({ streams := 1, part := false } : Filter).select written0.image =
      [[0, 0, 0, 0, 0, 7, 0, 0, 0, 0, 0, 0, 0, 1, 0, 65, 65, 0, 0, 0, 0, 0, 0, 0]] := by decide +kernel

def reading0 : State :=
  { doing (.read 2) (.cursor 0) (.cursor 0) (withCursor { filling0 with inFlight := true } shut0) with
    params := { Params.default with readahead := 1 } }

/-- What the read of slot 2 in `reading0` meets, for a cursor of this shape. -/
abbrev AtRead (s : State) (x : Cursor) (d sd i : Nat) : Prop :=
  s.signals = [] ∧ s.mpt.link = some { op := .read 2, number := 9, issuer := .cursor 0 } ∧
    s.mpt.holder = some (.cursor 0) ∧ NoneAsks s ∧ x = s.cursor 0 ∧ x.phase = .reading ∧
    x.state = (if x.buffered = [] then .filling else .ready) ∧ (x.next = none ∨ x.buffered = []) ∧ x.inUse = some i ∧
    x.buffered.length < i ∧ s.vom.frontier = some d ∧ s.vom.frontierSlot = some sd ∧ x.reads < 8 ∧ NoneWaits s ∧
    s.params.stagingFloor ≤ s.pool.free ∧ s.replayCount ≤ s.params.replayLimit

/-- The part `reading0` with this D and S_D and another cursor. -/
def readingAt (d sd : Nat) (c : Cursor) : State :=
  { reading0 with
    vom := { reading0.vom with frontier := some d, frontierSlot := some sd }
    cursors := reading0.cursors.set 0 c
    ports := (slotState .pending none reading0).ports }

def header0 : SlotHeader := { bsn := 2, session := 1, count := 1, fill := 24, firstRsn := 7 }

theorem witness_CursorRead :
    (AtRead (readingAt 3 3 filling0) filling0 3 3 1 ∧ filling0.takes 3 header0 ∧ filling0.buffered.length + 1 = 1 ∧
      reading0.params.readahead ≤ 1) ∧ filling0.filter.select written0.image ≠ [] ∧
    ReadEnds 9 (.readDone 9 written0.image) (some header0) (some written0.image) ∧ ReadEnds 9 (.blank 9) none none ∧
    (2 + 1 ≤ 3 ∧ filling0.passesBy 3 none ∧ filling0.candidate = none) ∧
    (AtRead (readingAt 3 3 { filling0 with expected := some 1 }) { filling0 with expected := some 1 } 3 3 1 ∧
      (1 : Nat) < header0.bsn ∧ header0.bsn ≤ 3 ∧ filling0.skipped + 1 < 32) ∧
    ({ streams := 2, part := false } : Filter).select written0.image = [] ∧
    (AtRead (readingAt 3 3 { filling0 with next := some 2 }) { filling0 with next := some 2 } 3 3 1 ∧
      CanReply (readingAt 3 3 { filling0 with next := some 2 }) 0 2) ∧
    (AtRead (readingAt 3 2 { filling0 with candidate := some (0, 1) }) { filling0 with candidate := some (0, 1) } 3 2 1 ∧
      2 < 2 + 1 ∧ 0 ≤ 2 ∧ 0 ≠ 2 + 1) ∧
    (AtRead (readingAt 1 3 { filling0 with candidate := some (0, 1) }) { filling0 with candidate := some (0, 1) } 1 3 1 ∧
      1 < header0.bsn) ∧
    (AtRead (readingAt 1 3 filling0) filling0 1 3 1 ∧ AtRead (readingAt 3 2 filling0) filling0 3 2 1) ∧
    (AtRead (readingAt 3 2 { filling0 with next := some 2 }) { filling0 with next := some 2 } 3 2 1 ∧
      CanReply (readingAt 3 2 { filling0 with next := some 2 }) 0 2) := by
  refine ⟨by decide, ?_, written0_ends 9, blank_ends 9, ⟨by decide, .inl rfl, by decide⟩, by decide, by decide +kernel,
    by decide, by decide, by decide, by decide, by decide⟩
  rw [show filling0.filter = { streams := 1, part := false } by decide, test_select_written]
  simp

theorem witness_ClosedRead :
    (∀ x ∈ [(VolState.ready, false), (.ejecting, true)], (closedOp (.read 2) x.1 x.2).signals = [] ∧
      (closedOp (.read 2) x.1 x.2).mpt.link = some { op := .read 2, number := 9, issuer := .closedCursor 0 } ∧
      (closedOp (.read 2) x.1 x.2).mpt.holder = none ∧ (closedOp (.read 2) x.1 x.2).mpt.volumeWaits = x.2 ∧
      (closedOp (.read 2) x.1 x.2).vom.state = x.1 ∧ NoneWaits (closedOp (.read 2) x.1 x.2)) ∧
    NoneAsks (closedOp (.read 2) .ready false) ∧ ReadEnds 9 (.blank 9) none none :=
  ⟨by decide, by decide, blank_ends 9⟩

/-- Codes for the drive link, of this test's own: the manual gives none (log entry 24). -/
def codes0 : DriveCodes :=
  { kind := fun k => BitVec.ofNat 8 k.ctorIdx, medium := fun b => if b then 1 else 2, result := fun b => if b then 1 else 2 }

theorem witness_FramesDecode :
    (([1, 2] : List Byte).length ≤ 2040 ∧ ([4, 0, 0, 0, 0, 0, 0, 0] : List Byte).length = 8 + ([] : List Byte).length ∧
      (0#32) ≠ crc32 [4, 0, 0, 0, 0, 0, 0, 0]) ∧
    ((DriveKind.fromDrive.map codes0.kind).Nodup ∧ codes0.medium true ≠ codes0.medium false ∧
      codes0.result true ≠ codes0.result false) ∧
    (List.replicate 2048 (0 : Byte)).length = 2048 ∧ (0#32) ≠ crc32 [1, 2] ∧
    ∀ k ∈ DriveKind.fromDrive, codes0.kind k ≠ 255 :=
  ⟨by decide +kernel, by decide, List.length_replicate, by decide +kernel, by decide⟩

/-- R62, R180, R182: the fields of END_FOUND are its number, most significant byte first. -/
theorem test_drive_message :
    decodeDriveMessageBy codes0 (driveMessage (codes0.kind .endFound) 7 [0, 0, 1, 2]) = .endFound 7 258 := by decide +kernel

end Sys2Proof.Tests
end

/-! The EJECT_INHIBIT line (R118): its law as a proposition, and every command's step ends by setting the line to it. -/

namespace Sys2Proof.Machine

open Sys2Proof

/-- A port set has a member exactly when one of the four ports is in it. -/
theorem PortSet.any_toList_iff (ps : PortSet) : ps.toList.any id = true ↔ ∃ p : Port, ps[p] = true := by
  rw [List.any_eq_true]
  constructor
  · rintro ⟨b, mem, holds⟩
    obtain ⟨i, lt, e⟩ := Vector.mem_iff_getElem.mp (Vector.mem_toList_iff.mp mem)
    exact ⟨⟨i, lt⟩, e.trans holds⟩
  · rintro ⟨p, holds⟩
    exact ⟨ps[p], Vector.mem_toList_iff.mpr (Vector.getElem_mem p.isLt), holds⟩

/-- Something is staged exactly when one of the four kinds of staged buffer exists (R39). -/
theorem State.staged_pos_iff (s : State) :
    0 < s.staged ↔ s.pool.opened ≠ none ∨ s.pool.sealed ≠ [] ∨ s.ape.inWrite ≠ none ∨ s.ape.unverified ≠ [] := by
  have optional : ∀ {α : Type} (o : Option α), 0 < o.toList.length ↔ o ≠ none := by
    intro α o
    cases o <;> simp
  simp only [State.staged, Nat.add_pos_iff_pos_or_pos, optional, List.length_pos_iff, or_assoc]

/-- The level of the line is the law of R118. -/
theorem State.inhibitLaw_iff (s : State) :
    s.inhibitLaw = true ↔
      (s.vom.state = .seekingEnd ∨ s.vom.state = .ready ∨ s.vom.state = .draining ∨ s.vom.state = .faulted) ∧
        ((∃ p : Port, s.srt.locks[p] = true) ∨
          s.pool.opened ≠ none ∨ s.pool.sealed ≠ [] ∨ s.ape.inWrite ≠ none ∨ s.ape.unverified ≠ []) := by
  rw [← PortSet.any_toList_iff, ← State.staged_pos_iff]
  unfold State.inhibitLaw
  cases s.vom.state <;> simp

/-- Re-evaluating the line makes it lawful, whatever its level was (R118). -/
theorem lineLawful_driveInhibit (s : State) : LineLawful (driveInhibit s) := s.inhibitLaw_iff

/-- Every command's meaning ends with `finish`: its reports are acted on, and the line is re-evaluated. -/
theorem exec_eq_finish (c : Instr) (s : State) : ∃ u, exec c s = finish u := by
  cases c with
  | endFound op e =>
    change ∃ u, execEndFound op e s = finish u
    unfold execEndFound
    split
    · exact ⟨_, rfl⟩
    · exact ⟨_, rfl⟩
  | _ => exact ⟨_, rfl⟩

/-- Where a step ends with `finish`, the line is lawful in the state it answers. -/
theorem lineLawful_of_finish {u t : State} (h : finish u = .next t) : LineLawful t := by
  cases h
  exact lineLawful_driveInhibit _

/-- Settles O53: whatever the command did, its step ends with `finish`, which sets the line to its law. -/
theorem lineLawfulAlways : Obligations.LineLawfulAlways := by
  intro c s t h
  obtain ⟨u, e⟩ := exec_eq_finish c s
  exact lineLawful_of_finish (e ▸ h)

end Sys2Proof.Machine

/-! The requests that the Stream and Reservation Table answers at once (R146, R148, R150, R151): each is a reply in a state
that differs from the state taken at the port in the claims only. The theorems that settle obligations stand under `Settled`,
for the model has operations named `reserveStream` and `release`. -/

namespace Sys2Proof.Machine

open Sys2Proof

/-! ## What the checks ask, as propositions -/

/-- The gate is CLOSED exactly when a gating notice stands in the queue (R160). -/
theorem State.gateClosed_iff (s : State) (p : Port) : s.gateClosed p = true ↔ ¬GateOpen s p := by
  simp [State.gateClosed, GateOpen, State.notices]

/-- The states in which RESERVE is served (R146). -/
theorem VolumeRecord.readable_iff (v : VolumeRecord) :
    v.readable = true ↔ v.state = .ready ∨ v.state = .draining ∨ (v.state = .faulted ∧ v.cause ≠ some .drive) := by
  unfold VolumeRecord.readable
  cases v.state <;> simp

/-- The states in which LOCK_REMOVAL is refused are those in which no volume is loaded (R150). -/
theorem VolumeRecord.not_loaded_iff (v : VolumeRecord) :
    v.loaded = false ↔
      v.state = .none ∨ v.state = .mounting ∨ v.state = .rejected ∨ (v.state = .faulted ∧ v.cause = some .drive) := by
  unfold VolumeRecord.loaded
  cases v.state <;> simp

theorem heldByOther_iff (holder : Option Port) (p : Port) :
    heldByOther holder p = true ↔ ∃ q, q ≠ p ∧ holder = some q := by
  cases holder <;> simp [heldByOther]

/-- A payload of the one byte that numbers a stream names that stream (R181). -/
theorem parseTarget_stream (f : Target → Request) (x : StreamId) :
    parseTarget f [BitVec.ofNat 8 x.val] = some (f (.stream x)) := by
  have byte : natAt 0 1 [BitVec.ofNat 8 x.val] = x.val := by
    rw [natAt_all 1 _ rfl, show [BitVec.ofNat 8 x.val] = beBytes 1 x.val from rfl, beNat_beBytes 1 x.val (by omega)]
  have notVolume : x.val ≠ 255 := by omega
  simp [parseTarget, toStream, byte, notVolume]

/-- A payload of the byte 255 names the volume (R181). -/
theorem parseTarget_volume (f : Target → Request) : parseTarget f [255] = some (f .volume) := rfl

/-! ## Taking a request and answering it -/

/-- The state in which the owner of a request sees it: the frame stands in the tag's slot, and nothing else has changed. -/
def State.receiving (s : State) (p : Port) (t : Tag) (kind : Byte) (payload : List Byte) : State :=
  { s with ports := s.taken p t (TagSlot.dispatch kind payload) }

section Receiving

variable {s : State} {p : Port} {t : Tag} {kind : Byte} {payload : List Byte} {r : Request}

/-- A request with good fields, whose gate does not stop it, reaches its owner (R166, step 4). -/
theorem takeRequest_served (h : Ready s p t) (len : payload.length ≤ 2040)
    (parsed : parseRequest kind.toNat payload = some r) (gate : r.gated = true → GateOpen s p) :
    takeRequest p t kind payload s = serve p t r (s.receiving p t kind payload) := by
  have passes : ¬(r.gated = true ∧ (s.receiving p t kind payload).gateClosed p = true) :=
    fun ⟨gated, closed⟩ => (s.gateClosed_iff p).mp closed (gate gated)
  rw [takeRequest_ready p t kind payload s h len, dispatched, parsed]
  exact if_neg passes

/-- A reply to a request other than APPEND, given at once in a state where only the claims have changed since it was
taken (R167, R171). -/
theorem replyWith_receiving (h : Ready s p t) (notAppend : kind ≠ 1) (st : Status) (already : Bool) (c : Claims) :
    replyWith p t st .empty already false { s.receiving p t kind payload with srt := c } =
      { s with ports := s.answered p t kind st .empty { s.marks with already := already }, srt := c } := by
  have kindByte : (kind == 1#8) = false := beq_false_of_ne notAppend
  rw [replyWith_taken p t st .empty already false s { s.receiving p t kind payload with srt := c }
    (TagSlot.dispatch kind payload) rfl h TagState.noConfusion]
  simp [TagSlot.dispatch, TagSlot.kindByte, kindByte, State.marks, State.low, State.receiving]

/-- The step of a request of a gated kind at a closed gate (R160, R166, step 3). -/
theorem finish_takeRequest_gated (h : Ready s p t) (notAppend : kind ≠ 1) (len : payload.length ≤ 2040)
    (parsed : parseRequest kind.toNat payload = some r) (gated : r.gated = true) (closed : ¬GateOpen s p) :
    finish (takeRequest p t kind payload s) =
      .next (driveInhibit { s with ports := s.answered p t kind .attention .empty s.marks }) := by
  have shut : r.gated = true ∧ (s.receiving p t kind payload).gateClosed p = true :=
    ⟨gated, (s.gateClosed_iff p).mpr closed⟩
  have refused : takeRequest p t kind payload s = reply p t .attention .empty (s.receiving p t kind payload) := by
    rw [takeRequest_ready p t kind payload s h len, dispatched, parsed]
    exact if_pos shut
  have answer : reply p t .attention .empty (s.receiving p t kind payload) =
      { s with ports := s.answered p t kind .attention .empty s.marks } :=
    replyWith_receiving h notAppend .attention false s.srt
  rw [refused, answer]
  exact finish_quiet _ h.1.1.2

/-- The step of a request that its owner answers at once, changing nothing but the claims. -/
theorem finish_takeRequest_answered (h : Ready s p t) (notAppend : kind ≠ 1) (len : payload.length ≤ 2040)
    (parsed : parseRequest kind.toNat payload = some r) (gate : r.gated = true → GateOpen s p) {st : Status}
    {already : Bool} {c : Claims}
    (served : serve p t r (s.receiving p t kind payload) =
      replyWith p t st .empty already false { s.receiving p t kind payload with srt := c }) :
    finish (takeRequest p t kind payload s) = .next (driveInhibit { s with
      ports := s.answered p t kind st .empty { s.marks with already := already }, srt := c }) := by
  rw [takeRequest_served h len parsed gate, served, replyWith_receiving h notAppend]
  exact finish_quiet _ h.1.1.2

end Receiving

/-! ## RESERVE of a stream (R146) -/

/-- The entry of a stream written back leaves the table as it is. -/
@[simp] theorem State.streams_set_stream (s : State) (x : StreamId) :
    s.srt.streams.set x (s.stream x) = s.srt.streams := by
  simp [State.stream]

@[simp] theorem State.setStream_self (s : State) (x : StreamId) : s.setStream x (s.stream x) = s := by
  simp [State.setStream]

/-- The status, the ALREADY indicator and the stream's entry that a RESERVE gives behind the gate: the checks of R146 in
order, and the grant. -/
def State.streamReservation (s : State) (p : Port) (x : StreamId) : Status × Bool × StreamEntry :=
  if ¬(s.vom.state = .ready ∨ s.vom.state = .draining ∨
      (s.vom.state = .faulted ∧ s.vom.cause ≠ some .drive)) then (.notReady, false, s.stream x)
  else if (s.stream x).isOpen = false then (.noStream, false, s.stream x)
  else if ∃ q, q ≠ p ∧ s.srt.volume = some q then (.conflict, false, s.stream x)
  else if ∃ q, q ≠ p ∧ (s.stream x).holder = some q then (.conflict, false, s.stream x)
  else if (s.stream x).holder = some p then (.done, true, s.stream x)
  else (.done, false, { s.stream x with holder := some p })

/-- RESERVE of a stream is one reply, after the entry it gives has been written. -/
theorem reserveStream_eq (p : Port) (t : Tag) (x : StreamId) (s : State) :
    reserveStream p t x s =
      replyWith p t (s.streamReservation p x).1 .empty (s.streamReservation p x).2.1 false
        (s.setStream x (s.streamReservation p x).2.2) := by
  simp only [reserveStream, State.streamReservation, ← VolumeRecord.readable_iff, ← heldByOther_iff,
    Bool.not_eq_true, reply]
  split_ifs <;> simp only [State.setStream_self]

/-- Settles O7: at a closed gate the port refuses; behind it the reply and the entry are those of `streamReservation`. -/
theorem Settled.reserveStream : Obligations.ReserveStream := by
  intro s p t x st already e h verdict
  have parsed : parseRequest (6 : Byte).toNat [BitVec.ofNat 8 x.val] = some (.reserve (.stream x)) :=
    parseTarget_stream .reserve x
  change finish (takeRequest p t 6 [BitVec.ofNat 8 x.val] s) = _
  by_cases gate : GateOpen s p
  · rw [if_neg (not_not_intro gate)] at verdict
    change (st, already, e) = s.streamReservation p x at verdict
    refine finish_takeRequest_answered h (by decide) (by simp) parsed (fun _ => gate) ?_
    have served := reserveStream_eq p t x (s.receiving p t 6 [BitVec.ofNat 8 x.val])
    rw [show (s.receiving p t 6 [BitVec.ofNat 8 x.val]).streamReservation p x = (st, already, e) from verdict.symm]
      at served
    exact served
  · rw [if_pos gate] at verdict
    obtain ⟨rfl, rfl, rfl⟩ := verdict
    rw [State.streams_set_stream]
    exact finish_takeRequest_gated h (by decide) (by simp) parsed rfl gate

/-! ## RELEASE (R148) -/

/-- RELEASE of a stream writes the entry without the requester's reservation, and replies DONE. -/
theorem releaseStream_eq (p : Port) (t : Tag) (x : StreamId) (s : State) :
    releaseStream p t x s = replyWith p t .done .empty false false
      (s.setStream x { s.stream x with
        holder := if (s.stream x).holder = some p then none else (s.stream x).holder }) := by
  simp only [releaseStream, reply]
  split_ifs
  · rfl
  · exact congrArg _ (s.setStream_self x).symm

/-- RELEASE of the volume ends the requester's own reservation, and replies DONE. -/
theorem releaseVolume_eq (p : Port) (t : Tag) (s : State) :
    releaseVolume p t s = replyWith p t .done .empty false false
      { s with srt := { s.srt with volume := if s.srt.volume = some p then none else s.srt.volume } } := by
  unfold releaseVolume reply
  split_ifs <;> rfl

/-- Settles O9: RELEASE is not gated, and its owner answers it DONE with the claims of `releaseStream_eq` and
`releaseVolume_eq`. -/
theorem Settled.release : Obligations.Release := by
  intro s p t h
  constructor
  · intro x
    have parsed : parseRequest (7 : Byte).toNat [BitVec.ofNat 8 x.val] = some (.release (.stream x)) :=
      parseTarget_stream .release x
    exact finish_takeRequest_answered h (by decide) (by simp) parsed Bool.noConfusion (releaseStream_eq p t x _)
  · have parsed : parseRequest (7 : Byte).toNat [255] = some (.release .volume) := parseTarget_volume .release
    exact finish_takeRequest_answered h (by decide) (by simp) parsed Bool.noConfusion (releaseVolume_eq p t _)

/-! ## The removal lock (R150, R151) -/

/-- LOCK_REMOVAL while a volume is loaded. -/
theorem lockRemoval_loaded (p : Port) (t : Tag) (s : State) (loaded : s.vom.loaded = true) :
    lockRemoval p t s = replyWith p t .done .empty false false
      { s with srt := { s.srt with locks := s.srt.locks.set p true } } :=
  if_pos loaded

/-- LOCK_REMOVAL while no volume is loaded. -/
theorem lockRemoval_unloaded (p : Port) (t : Tag) (s : State) (unloaded : s.vom.loaded = false) :
    lockRemoval p t s = replyWith p t .notReady .empty false false s :=
  if_neg (by simp [VolumeRecord.lockable, unloaded])

/-- Settles O10: LOCK_REMOVAL by the gate and by whether a volume is loaded; UNLOCK_REMOVAL is not gated and has one
outcome. -/
theorem Settled.removalLock : Obligations.RemovalLock := by
  intro s p t h
  constructor
  · have parsed : parseRequest (8 : Byte).toNat [] = some .lockRemoval := rfl
    change finish (takeRequest p t 8 [] s) = _
    simp only [← VolumeRecord.not_loaded_iff]
    by_cases gate : GateOpen s p
    · rw [if_neg (not_not_intro gate)]
      cases loaded : s.vom.loaded with
      | false =>
        exact finish_takeRequest_answered h (by decide) (by simp) parsed (fun _ => gate)
          (lockRemoval_unloaded p t (s.receiving p t 8 []) loaded)
      | true =>
        exact finish_takeRequest_answered h (by decide) (by simp) parsed (fun _ => gate)
          (lockRemoval_loaded p t (s.receiving p t 8 []) loaded)
    · rw [if_pos gate]
      exact finish_takeRequest_gated h (by decide) (by simp) parsed rfl gate
  · exact finish_takeRequest_answered h (by decide) (by simp) rfl Bool.noConfusion rfl

end Sys2Proof.Machine

/-! SET_PARAMETERS refused (R174): the check of the pairs is Table 11-1's ranges and distinct identifiers, and a request that
fails a check is one reply in the state taken at the port. -/

namespace Sys2Proof.Machine

open Sys2Proof

/-- The identifier and the bounds of each parameter (Table 11-1). -/
abbrev paramRanges : List (Nat × Nat × Nat) :=
  [(1, 1, 1000), (2, 1, 32), (3, 10, 2000), (4, 0, 60000), (5, 64, 65535), (6, 1, 8), (7, 0, 24), (8, 2, 24), (9, 4, 255)]

/-- A pair names a parameter of Table 11-1 and a value within its range. -/
abbrev WithinRange (q : Nat × Nat) : Prop :=
  ∃ lo hi, (q.1, lo, hi) ∈ paramRanges ∧ lo ≤ q.2 ∧ q.2 ≤ hi

/-- The range check holds for an identifier of Table 11-1 with a value within its bounds, and for no other identifier. -/
theorem paramInRange_iff (id value : Nat) : paramInRange id value = true ↔ WithinRange (id, value) := by
  unfold paramInRange
  split
  case h_10 => simp_all [WithinRange, paramRanges]
  all_goals simp [WithinRange, paramRanges]

/-- The check of the whole list (R174). -/
theorem pairsGood_iff (pairs : List (Nat × Nat)) :
    pairsGood pairs = true ↔ (∀ q ∈ pairs, WithinRange q) ∧ (pairs.map fun q => q.1).Nodup := by
  simp only [pairsGood, Bool.and_eq_true, List.all_eq_true, decide_eq_true_eq, paramInRange_iff]

/-- A list of pairs that fails the check is refused before anything else is looked at (R174). -/
theorem setParameters_bad (p : Port) (t : Tag) {pairs : List (Nat × Nat)} (s : State) (bad : pairsGood pairs = false) :
    setParameters p t pairs s = reply p t .badRequest .empty s :=
  if_pos bad

/-- A good list is refused while another port holds the volume (R174). -/
theorem setParameters_conflict (p : Port) (t : Tag) {pairs : List (Nat × Nat)} (s : State)
    (good : pairsGood pairs = true) (held : heldByOther s.srt.volume p = true) :
    setParameters p t pairs s = reply p t .conflict .empty s := by
  unfold setParameters
  rw [if_neg (by simp [good]), if_pos held]

/-- The step of a SET_PARAMETERS whose owner only replies: the request is not gated, and the reply is all that changes. -/
theorem exec_setParameters_refused {s : State} {p : Port} {t : Tag} {b : List Byte} {pairs : List (Nat × Nat)}
    (h : Ready s p t) (len : b.length ≤ 2040) (parsed : parseRequest 14 b = some (.setParameters pairs)) {st : Status}
    (refused : setParameters p t pairs (s.receiving p t 14 b) = reply p t st .empty (s.receiving p t 14 b)) :
    exec (.setParameters p t b) s = .next (driveInhibit { s with ports := s.answered p t 14 st .empty s.marks }) :=
  finish_takeRequest_answered (kind := 14) h (by decide) len parsed Bool.noConfusion refused

/-- Settles O12: the check of the pairs comes first, then the volume's holder; each refusal is one reply. -/
theorem setParametersRefused : Obligations.SetParametersRefused := by
  intro s p t b pairs h len parsed
  constructor
  · intro fault
    have bad : pairsGood pairs = false := by
      rw [← Bool.not_eq_true, pairsGood_iff]
      rintro ⟨ranges, distinct⟩
      obtain ⟨q, mem, outside⟩ | repeated := fault
      · obtain ⟨lo, hi, row, within⟩ := ranges q mem
        exact outside lo hi row within
      · exact repeated distinct
    exact exec_setParameters_refused h len parsed (setParameters_bad p t _ bad)
  · intro ranges distinct held
    have good : pairsGood pairs = true := (pairsGood_iff pairs).mpr ⟨ranges, distinct⟩
    exact exec_setParameters_refused h len parsed
      (setParameters_conflict p t _ good ((heldByOther_iff s.srt.volume p).mpr held))

end Sys2Proof.Machine

namespace Sys2Proof.Machine

open Sys2Proof

-- One declaration after the other: the threads of a parallel elaboration would exceed the check's memory limit.
set_option Elab.async false

/-! What a Host Port Unit and its notice queue keep whatever happens at the port: notices of distinct kinds and numbers
(R154, R156), at most 12 frames in the transmit queue (R171), fewer than 8 frame errors (R164), and nothing that waits for room
that is there (R171). -/

/-! ## The bounds of one port -/

/-- The notices of a queue differ in kind and in number (R154, R156). -/
def NoticeUnit.distinct (n : NoticeUnit) : Prop :=
  (n.queue.map fun e => e.body.code).Nodup ∧ (n.queue.map fun e => e.number).Nodup

/-- Where the link is up, an item waits only for want of room (R171). -/
def HostPort.settled (h : HostPort) : Prop :=
  h.up = true → h.waiting ≠ [] → Config.transmitLimit ≤ h.transmit.length

/-- One event takes a port from `h`, `n` to `h'`, `n'` within its bounds; whether it leaves something unplaced is said apart. -/
structure PortBounded (h h' : HostPort) (n n' : NoticeUnit) : Prop where
  distinct : n.distinct → n'.distinct
  transmit : h.transmit.length ≤ 12 → h'.transmit.length ≤ 12
  errors : h.errors < 8 → h'.errors < 8

/-- One event keeps everything that a port keeps. -/
structure PortKept (h h' : HostPort) (n n' : NoticeUnit) : Prop extends PortBounded h h' n n' where
  settled : h.settled → h'.settled

theorem PortBounded.refl (h : HostPort) (n : NoticeUnit) : PortBounded h h n n := ⟨id, id, id⟩

theorem PortBounded.trans {h h' h'' : HostPort} {n n' n'' : NoticeUnit} (a : PortBounded h h' n n')
    (b : PortBounded h' h'' n' n'') : PortBounded h h'' n n'' :=
  ⟨b.distinct ∘ a.distinct, b.transmit ∘ a.transmit, b.errors ∘ a.errors⟩

theorem PortKept.refl (h : HostPort) (n : NoticeUnit) : PortKept h h n n := ⟨.refl h n, id⟩

theorem PortKept.trans {h h' h'' : HostPort} {n n' n'' : NoticeUnit} (a : PortKept h h' n n')
    (b : PortKept h' h'' n' n'') : PortKept h h'' n n'' :=
  ⟨a.toPortBounded.trans b.toPortBounded, b.settled ∘ a.settled⟩

/-! ## Placing (R171) -/

/-- Marking entries as SENT changes neither their kinds nor their numbers. -/
theorem NoticeUnit.distinct_markSent (n : NoticeUnit) (k : BitVec 16) (d : n.distinct) :
    NoticeUnit.distinct { n with queue := n.queue.map fun e => if e.number = k then { e with sent := true } else e } := by
  have code : ∀ e : NoticeEntry, (if e.number = k then { e with sent := true } else e).body.code = e.body.code := by
    intro e
    split <;> rfl
  have number : ∀ e : NoticeEntry, (if e.number = k then { e with sent := true } else e).number = e.number := by
    intro e
    split <;> rfl
  simpa only [NoticeUnit.distinct, List.map_map, Function.comp_def, code, number] using d

/-- One item placed where there is room. -/
theorem placeOne_bounded (w : WaitItem) (h : HostPort) (n : NoticeUnit)
    (room : h.transmit.length < Config.transmitLimit) : PortBounded h (placeOne w h n).1 n (placeOne w h n).2 := by
  have fits : h.transmit.length < 12 := room
  unfold placeOne
  split
  · split
    · exact ⟨id, fun _ => by simp; omega, id⟩
    · exact .refl h n
  · split
    · exact ⟨n.distinct_markSent _, fun _ => by simp; omega, id⟩
    · exact .refl h n

theorem placeItems_bounded (ws : List WaitItem) (h : HostPort) (n : NoticeUnit) :
    PortBounded h (placeItems ws h n).1 n (placeItems ws h n).2 := by
  induction ws generalizing h n with
  | nil => exact ⟨id, id, id⟩
  | cons w ws ih =>
    unfold placeItems
    split
    next open_ => exact (placeOne_bounded w h n open_.2).trans (ih _ _)
    next => exact ⟨id, id, id⟩

/-- Placing stops only where nothing waits, the link is down or the queue is full. -/
theorem placeItems_settled (ws : List WaitItem) (h : HostPort) (n : NoticeUnit) : (placeItems ws h n).1.settled := by
  induction ws generalizing h n with
  | nil =>
    intro _ waits
    exact absurd rfl waits
  | cons w ws ih =>
    unfold placeItems
    split
    next => exact ih _ _
    next shut =>
      intro up _
      by_contra short
      exact shut ⟨up, Nat.lt_of_not_le short⟩

/-! ## Every port of a state -/

/-- Every port of `t` keeps what it kept in `s`. -/
def PortsKept (s t : State) : Prop := ∀ p, PortKept (s.port p) (t.port p) (s.notices p) (t.notices p)

theorem PortsKept.refl (s : State) : PortsKept s s := fun p => .refl (s.port p) (s.notices p)

theorem PortsKept.trans {s t u : State} (a : PortsKept s t) (b : PortsKept t u) : PortsKept s u :=
  fun p => (a p).trans (b p)

theorem PortsKept.of_eq {s t : State} (ports : t.ports = s.ports) (ntu : t.ntu = s.ntu) : PortsKept s t := by
  intro p
  rw [State.port, State.port, State.notices, State.notices, ports, ntu]
  exact .refl _ _

@[simp] theorem State.port_place (p q : Port) (s : State) :
    (place p s).port q = if p = q then (placeItems (s.port p).waiting (s.port p) (s.notices p)).1 else s.port q := by
  simp [place, State.port_setPort]

@[simp] theorem State.notices_place (p q : Port) (s : State) :
    (place p s).notices q = if p = q then (placeItems (s.port p).waiting (s.port p) (s.notices p)).2 else s.notices q := by
  simp [place, State.notices_setNotices]

/-- A port written within its bounds, and its items placed. -/
theorem place_after_kept {s u : State} {p : Port} (bounded : PortBounded (s.port p) (u.port p) (s.notices p) (u.notices p))
    (others : ∀ q, p ≠ q → u.port q = s.port q ∧ u.notices q = s.notices q) : PortsKept s (place p u) := by
  intro q
  rw [State.port_place, State.notices_place]
  by_cases at_ : p = q
  · subst at_
    rw [if_pos rfl, if_pos rfl]
    exact ⟨bounded.trans (placeItems_bounded _ _ _), fun _ => placeItems_settled _ _ _⟩
  · rw [if_neg at_, if_neg at_, (others q at_).1, (others q at_).2]
    exact .refl _ _

theorem place_kept (p : Port) (s : State) : PortsKept s (place p s) :=
  place_after_kept (.refl _ _) fun _ _ => ⟨rfl, rfl⟩

/-- A port written so that it keeps what it keeps. -/
theorem setPort_kept {s : State} {p : Port} {h : HostPort}
    (kept : PortKept (s.port p) h (s.notices p) (s.notices p)) : PortsKept s (s.setPort p h) := by
  intro q
  rw [State.port_setPort, State.notices_setPort]
  split
  next at_ => exact at_ ▸ kept
  next => exact .refl _ _

/-- A tag slot is none of a port's bounds. -/
theorem setSlot_kept (p : Port) (t : Tag) (x : TagSlot) (s : State) : PortsKept s (s.setSlot p t x) :=
  setPort_kept ⟨⟨id, id, id⟩, id⟩

theorem setTagState_kept (p : Port) (t : Tag) (st : TagState) (s : State) : PortsKept s (s.setTagState p t st) :=
  setSlot_kept p t _ s

/-! ## Replies and notices -/

theorem replyWith_kept (p : Port) (t : Tag) (st : Status) (body : ReplyBody) (already gap : Bool) (s : State) :
    PortsKept s (replyWith p t st body already gap s) := by
  unfold replyWith
  dsimp only
  split
  next => exact .refl s
  next =>
    refine place_after_kept ?_ fun q ne => ⟨State.port_setPort_other s _ ne, rfl⟩
    rw [State.port_setPort_same, State.notices_setPort]
    exact ⟨id, id, id⟩

theorem reply_kept (p : Port) (t : Tag) (st : Status) (body : ReplyBody) (s : State) :
    PortsKept s (reply p t st body s) :=
  replyWith_kept p t st body false false s

/-- Two notices of one kind combine to a notice of that kind (R157). -/
theorem Notice.combine_code (old new : Notice) : (old.combine new).code = new.code := by
  unfold Notice.combine
  split <;> rfl

theorem foldl_combine_code (entries : List NoticeEntry) (body : Notice) :
    (entries.foldl (fun b e => e.body.combine b) body).code = body.code := by
  induction entries generalizing body with
  | nil => rfl
  | cons e es ih => rw [List.foldl_cons, ih, Notice.combine_code]

/-- The number taken for a notice is one of the `n + 1` numbers from the counter on: those before it are in use, and it is
not, unless it is the last of them. -/
theorem freshNumber_spec (queue : List NoticeEntry) (n : Nat) (k : BitVec 16) :
    ∃ i ≤ n, freshNumber queue n k = k + BitVec.ofNat 16 i ∧
      (∀ j < i, ∃ e ∈ queue, e.number = k + BitVec.ofNat 16 j) ∧
      (i = n ∨ ∀ e ∈ queue, e.number ≠ freshNumber queue n k) := by
  induction n generalizing k with
  | zero => exact ⟨0, Nat.le_refl 0, by simp [freshNumber], fun j lt => absurd lt (Nat.not_lt_zero j), .inl rfl⟩
  | succ n ih =>
    by_cases taken : queue.any (fun e => e.number == k) = true
    · obtain ⟨i, le, value, before, last⟩ := ih (k + 1)
      have shift : ∀ j : Nat, k + 1 + BitVec.ofNat 16 j = k + BitVec.ofNat 16 (j + 1) := by
        intro j
        apply BitVec.eq_of_toNat_eq
        simp
        omega
      rw [freshNumber, if_pos taken]
      refine ⟨i + 1, Nat.succ_le_succ le, value.trans (shift i), ?_, last.imp_left (congrArg Nat.succ)⟩
      intro j lt
      cases j with
      | zero => simpa using taken
      | succ j => exact shift j ▸ before j (Nat.lt_of_succ_lt_succ lt)
    · rw [freshNumber, if_neg taken]
      refine ⟨0, Nat.zero_le _, by simp, fun j lt => absurd lt (Nat.not_lt_zero j), .inr fun e mem same => taken ?_⟩
      exact List.any_eq_true.mpr ⟨e, mem, beq_iff_eq.mpr same⟩

/-- With fewer entries than numbers to try, the number taken is one that no entry holds (R156): the numbers passed over are as
many different numbers of entries. -/
theorem freshNumber_unused (queue : List NoticeEntry) (n : Nat) (k : BitVec 16) (few : queue.length < n)
    (small : n < 65536) : ∀ e ∈ queue, e.number ≠ freshNumber queue n k := by
  obtain ⟨i, le, value, before, last⟩ := freshNumber_spec queue n k
  have passed : (List.range i).map (fun j => k + BitVec.ofNat 16 j) ⊆ queue.map fun e => e.number := by
    intro x mem
    obtain ⟨j, lt, rfl⟩ := List.mem_map.mp mem
    obtain ⟨e, inQueue, number⟩ := before j (List.mem_range.mp lt)
    exact List.mem_map.mpr ⟨e, inQueue, number⟩
  have different : ((List.range i).map fun j => k + BitVec.ofNat 16 j).Nodup := by
    refine List.Nodup.map_on ?_ List.nodup_range
    intro a la b lb same
    have lta := List.mem_range.mp la
    have ltb := List.mem_range.mp lb
    have values := congrArg BitVec.toNat same
    simp at values
    omega
  have short : i ≤ queue.length := by simpa using (different.subperm passed).length_le
  exact last.resolve_left (by omega)

/-- There are eight kinds of notice (Table 9-1). -/
theorem Notice.code_range (b : Notice) : b.code ∈ List.range' 1 8 := by
  cases b <;> simp [Notice.code]

/-- A queue of distinct kinds without one kind holds at most seven entries. -/
theorem length_without_kind (queue : List NoticeEntry) (d : (queue.map fun e => e.body.code).Nodup) (body : Notice)
    (none_ : ∀ e ∈ queue, e.body.code ≠ body.code) : queue.length ≤ 7 := by
  have all : (body.code :: queue.map fun e => e.body.code).Nodup := by
    refine List.nodup_cons.mpr ⟨?_, d⟩
    intro mem
    obtain ⟨e, inQueue, same⟩ := List.mem_map.mp mem
    exact none_ e inQueue same
  have within : (body.code :: queue.map fun e => e.body.code) ⊆ List.range' 1 8 := by
    intro c mem
    rcases List.mem_cons.mp mem with rfl | mem
    · exact body.code_range
    · obtain ⟨e, -, rfl⟩ := List.mem_map.mp mem
      exact e.body.code_range
  have := (all.subperm within).length_le
  simp at this
  omega

/-- Withdrawing frames leaves no more of them. -/
theorem length_withdrawFrame (k : BitVec 16) (q : List Frame) : (withdrawFrame k q).length ≤ q.length := by
  cases q with
  | nil => exact Nat.le_refl 0
  | cons f fs => exact Nat.succ_le_succ (List.length_filter_le _ fs)

theorem length_withdraw (removed : List NoticeEntry) (h : HostPort) :
    (h.withdraw removed).transmit.length ≤ h.transmit.length := by
  change (removed.foldl (fun q e => withdrawFrame e.number q) h.transmit).length ≤ _
  generalize h.transmit = q
  induction removed generalizing q with
  | nil => exact Nat.le_refl _
  | cons e es ih => exact (ih _).trans (length_withdrawFrame e.number q)

/-- The queue that a posting makes: distinct kinds, since the entries of its kind are gone, and distinct numbers, since the new
number is one that no other entry holds (R156, R157). -/
theorem distinct_post (n : NoticeUnit) (body body' : Notice) (same : body'.code = body.code) (d : n.distinct) :
    NoticeUnit.distinct {
      queue := (n.queue.filter fun e => e.body.code ≠ body.code) ++ [{
        number := freshNumber (n.queue.filter fun e => e.body.code ≠ body.code) 8 n.counter, body := body', sent := false }]
      counter := freshNumber (n.queue.filter fun e => e.body.code ≠ body.code) 8 n.counter + 1 } := by
  obtain ⟨codes, numbers⟩ := d
  generalize hrest : (n.queue.filter fun e => decide (e.body.code ≠ body.code)) = rest
  have sub : rest.Sublist n.queue := hrest ▸ List.filter_sublist
  have other : ∀ e ∈ rest, e.body.code ≠ body.code := by
    intro e mem
    rw [← hrest] at mem
    simpa using (List.mem_filter.mp mem).2
  have codesRest := codes.sublist (sub.map fun e => e.body.code)
  have numbersRest := numbers.sublist (sub.map fun e => e.number)
  have few := length_without_kind rest codesRest body other
  have unused := freshNumber_unused rest 8 n.counter (by omega) (by omega)
  constructor
  · simp only [List.map_append, List.map_cons, List.map_nil, same]
    refine codesRest.append (List.nodup_singleton _) ?_
    simpa using other
  · simp only [List.map_append, List.map_cons, List.map_nil]
    refine numbersRest.append (List.nodup_singleton _) ?_
    simpa using unused

theorem post_kept (p : Port) (body : Notice) (s : State) : PortsKept s (post p body s) := by
  unfold post
  refine place_after_kept ?_ fun q ne => ?_
  · rw [State.notices_setNotices_same, State.port_setNotices, State.port_setPort_same]
    exact ⟨distinct_post _ body _ (foldl_combine_code _ body), (length_withdraw _ _).trans, id⟩
  · rw [State.port_setNotices, State.port_setPort_other s _ ne, State.notices_setNotices, if_neg ne]
    exact ⟨rfl, rfl⟩

theorem postAll_kept (ports : List Port) (body : Notice) (s : State) : PortsKept s (postAll ports body s) := by
  induction ports generalizing s with
  | nil => exact .refl s
  | cons p ps ih => exact (post_kept p body s).trans (ih _)

/-! What every operation keeps of the whole state, packed into one relation: the bounds of the ports, the division of the 48
buffers (R39), the bound on writes (R76) and the course of the journal clock (R30). Every later step of the argument is a lemma
`…_evolves` for one operation of the model. -/

/-! ## The sum of the buffers -/

/-- 1 where an outstanding read holds a REPLAY buffer. -/
def heldByLink (link : Option Outstanding) : Nat :=
  match link with
  | some o => if o.holdsBuffer then 1 else 0
  | none => 0

/-- The blocks that the four cursors have buffered. -/
def cursorBuffers (cursors : Vector Cursor 4) : Nat := (cursors.toList.map fun c => c.buffered.length).sum

theorem State.replayCount_eq (s : State) : s.replayCount = cursorBuffers s.cursors + heldByLink s.mpt.link := rfl

theorem State.bufferTotal_eq (s : State) :
    s.bufferTotal = s.pool.free + s.staged + cursorBuffers s.cursors + heldByLink s.mpt.link := by
  simp only [State.bufferTotal, State.counts, State.staged, State.replayCount_eq]
  omega

@[simp] theorem heldByLink_none : heldByLink none = 0 := rfl

theorem heldByLink_some (o : Outstanding) : heldByLink (some o) = if o.holdsBuffer then 1 else 0 := rfl

/-- Writing one cursor exchanges its buffers. -/
theorem cursorBuffers_set (cursors : Vector Cursor 4) (p : Port) (c : Cursor) :
    cursorBuffers (cursors.set p c) + cursors[p].buffered.length = cursorBuffers cursors + c.buffered.length := by
  have four : ∀ v : Vector Cursor 4, v.toList = [v[0], v[1], v[2], v[3]] := by
    intro v
    apply List.ext_getElem
    · simp
    · intro i h _
      have : i < 4 := by simpa using h
      match i with
      | 0 | 1 | 2 | 3 => simp
  simp only [cursorBuffers, four]
  match p with
  | 0 | 1 | 2 | 3 => simp; omega

theorem State.cursorBuffers_setCursor (s : State) (p : Port) (c : Cursor) :
    cursorBuffers (s.cursors.set p c) + (s.cursor p).buffered.length = cursorBuffers s.cursors + c.buffered.length :=
  cursorBuffers_set s.cursors p c

@[simp] theorem length_toList_map {α β : Type} (f : α → β) (o : Option α) :
    (o.map f).toList.length = o.toList.length := by
  cases o <;> rfl

/-! ## The relation -/

/-- A cursor that is CLOSED or FAILED. -/
def Cursor.rests (c : Cursor) : Prop := c.state = .closed ∨ c.state = .failed

/-- A resting cursor has no part in the buffers (R120, R135, R137). -/
def CursorsRest (s : State) : Prop := ∀ p, s.cursorRests p

/-- No buffer is lost or made, and resting cursors stay without a part in them. -/
def BuffersConserved (s t : State) : Prop := CursorsRest s → t.bufferTotal = s.bufferTotal ∧ CursorsRest t

/-- The clock and the values that wait to be set stay bounded, and a set clock does not go back. -/
def ClockForward (s t : State) : Prop :=
  ClockBounded s → ClockBounded t ∧ ∀ c, s.adu.clock = some c → ∃ d, t.adu.clock = some d ∧ c ≤ d

/-- What every operation but a part reset keeps. -/
structure Evolves (s t : State) : Prop where
  ports : PortsKept s t
  buffers : BuffersConserved s t
  writes : WritesBounded s → WritesBounded t
  clock : ClockForward s t

theorem BuffersConserved.refl (s : State) : BuffersConserved s s := fun rest => ⟨rfl, rest⟩

theorem BuffersConserved.trans {s t u : State} (a : BuffersConserved s t) (b : BuffersConserved t u) :
    BuffersConserved s u := by
  intro rest
  obtain ⟨total, rest'⟩ := a rest
  obtain ⟨total', rest''⟩ := b rest'
  exact ⟨total'.trans total, rest''⟩

theorem ClockForward.trans {s t u : State} (a : ClockForward s t) (b : ClockForward t u) : ClockForward s u := by
  intro bounded
  obtain ⟨bounded', forward⟩ := a bounded
  obtain ⟨bounded'', forward'⟩ := b bounded'
  refine ⟨bounded'', fun c set_ => ?_⟩
  obtain ⟨d, setD, le⟩ := forward c set_
  obtain ⟨e, setE, le'⟩ := forward' d setD
  exact ⟨e, setE, le.trans le'⟩

theorem Evolves.trans {s t u : State} (a : Evolves s t) (b : Evolves t u) : Evolves s u :=
  ⟨a.ports.trans b.ports, a.buffers.trans b.buffers, b.writes ∘ a.writes, a.clock.trans b.clock⟩

/-- The clock stands, and every request in the queue stood there before. -/
theorem ClockForward.of_clock_eq {s t : State} (clock : t.adu.clock = s.adu.clock)
    (queue : ∀ e ∈ t.adu.queue, ∃ e' ∈ s.adu.queue, e'.request = e.request) : ClockForward s t := by
  rintro ⟨now, waiting⟩
  rw [ClockBounded, clock]
  refine ⟨⟨now, fun e mem v value => ?_⟩, fun c set_ => ⟨c, set_, Nat.le_refl c⟩⟩
  obtain ⟨e', mem', same⟩ := queue e mem
  exact waiting e' mem' v (same.trans value)

theorem ClockForward.of_adu_eq {s t : State} (adu : t.adu = s.adu) : ClockForward s t :=
  .of_clock_eq (by rw [adu]) (by rw [adu]; exact fun e mem => ⟨e, mem, rfl⟩)

/-- The counts of buffers stand, and every cursor and the link are as they were. -/
theorem BuffersConserved.of_counts {s t : State} (free : t.pool.free = s.pool.free) (staged : t.staged = s.staged)
    (cursors : t.cursors = s.cursors) (link : t.mpt.link = s.mpt.link) : BuffersConserved s t := by
  intro rest
  refine ⟨by rw [State.bufferTotal_eq, State.bufferTotal_eq, free, staged, cursors, link], fun p => ?_⟩
  have := rest p
  simp only [State.cursorRests, State.cursor, cursors, link] at this ⊢
  exact this

/-- Buffers move between FREE and the staged states; every cursor and the link are as they were. -/
theorem BuffersConserved.of_moved {s t : State} (total : t.pool.free + t.staged = s.pool.free + s.staged)
    (cursors : t.cursors = s.cursors) (link : t.mpt.link = s.mpt.link) : BuffersConserved s t := by
  intro rest
  refine ⟨by rw [State.bufferTotal_eq, State.bufferTotal_eq, total, cursors, link], fun p => ?_⟩
  have := rest p
  simp only [State.cursorRests, State.cursor, cursors, link] at this ⊢
  exact this

section Frames

variable {s t : State}

/-- An operation that touches neither a port, the clock, the queue nor a buffer. -/
theorem Evolves.of_frame (ports : t.ports = s.ports := by simp) (ntu : t.ntu = s.ntu := by simp)
    (adu : t.adu = s.adu := by simp) (pool : t.pool = s.pool := by simp) (cursors : t.cursors = s.cursors := by simp)
    (link : t.mpt.link = s.mpt.link := by simp) (unverified : t.ape.unverified = s.ape.unverified := by simp)
    (inWrite : t.ape.inWrite = s.ape.inWrite := by simp) : Evolves s t where
  ports := .of_eq ports ntu
  buffers := .of_counts (by rw [pool]) (by simp only [State.staged, pool, unverified, inWrite]) cursors link
  writes := by simp only [WritesBounded, unverified, inWrite]; exact id
  clock := .of_adu_eq adu

/-- An operation that touches nothing but the ports and their notice queues. -/
theorem Evolves.of_ports (kept : PortsKept s t) (adu : t.adu = s.adu := by simp) (pool : t.pool = s.pool := by simp)
    (cursors : t.cursors = s.cursors := by simp) (mpt : t.mpt = s.mpt := by simp) (ape : t.ape = s.ape := by simp) :
    Evolves s t where
  ports := kept
  buffers := .of_counts (by rw [pool]) (by simp only [State.staged, pool, ape]) cursors (by rw [mpt])
  writes := by simp only [WritesBounded, ape]; exact id
  clock := .of_adu_eq adu

/-- An operation that moves buffers of the pool and the engine. -/
theorem Evolves.of_moved (total : t.pool.free + t.staged = s.pool.free + s.staged)
    (writes : WritesBounded s → WritesBounded t) (ports : t.ports = s.ports := by simp) (ntu : t.ntu = s.ntu := by simp)
    (adu : t.adu = s.adu := by simp) (cursors : t.cursors = s.cursors := by simp)
    (link : t.mpt.link = s.mpt.link := by simp) : Evolves s t where
  ports := .of_eq ports ntu
  buffers := .of_moved total cursors link
  writes := writes
  clock := .of_adu_eq adu

end Frames

theorem Evolves.refl (s : State) : Evolves s s := .of_frame rfl rfl rfl rfl rfl rfl rfl rfl

theorem Evolves.ite {c : Prop} [Decidable c] {s t u : State} (yes : c → Evolves s t) (no : ¬c → Evolves s u) :
    Evolves s (if c then t else u) := by
  split
  next h => exact yes h
  next h => exact no h

/-! ## Ports, replies and notices -/

theorem raise_evolves (g : Signal) (s : State) : Evolves s (raise g s) := .of_frame

theorem setSlot_evolves (p : Port) (t : Tag) (x : TagSlot) (s : State) : Evolves s (s.setSlot p t x) :=
  .of_ports (setSlot_kept p t x s)

theorem setTagState_evolves (p : Port) (t : Tag) (st : TagState) (s : State) : Evolves s (s.setTagState p t st) :=
  .of_ports (setTagState_kept p t st s)

theorem place_evolves (p : Port) (s : State) : Evolves s (place p s) := .of_ports (place_kept p s)

theorem replyWith_evolves (p : Port) (t : Tag) (st : Status) (body : ReplyBody) (already gap : Bool) (s : State) :
    Evolves s (replyWith p t st body already gap s) :=
  .of_ports (replyWith_kept p t st body already gap s)

theorem reply_evolves (p : Port) (t : Tag) (st : Status) (body : ReplyBody) (s : State) :
    Evolves s (reply p t st body s) :=
  .of_ports (reply_kept p t st body s)

theorem postAll_evolves (ports : List Port) (body : Notice) (s : State) : Evolves s (postAll ports body s) :=
  .of_ports (postAll_kept ports body s)

theorem evalLevel_evolves (s : State) : Evolves s (evalLevel s) := by
  have leveled : ∀ v, Evolves s { s with vom := v } := fun v => .of_frame
  unfold evalLevel
  split
  · exact .refl s
  · refine .ite (fun _ => ?_) fun _ => .refl s
    exact .ite (fun _ => (leveled _).trans (postAll_evolves _ _ _)) fun _ => leveled _

theorem recomputeR_evolves (s : State) : Evolves s (recomputeR s) := by
  unfold recomputeR
  refine .ite (fun _ => ?_) fun _ => .refl s
  refine Evolves.trans ?_ (evalLevel_evolves _)
  exact .of_frame

/-! ## The staging pool -/

theorem openBlock_evolves (s : State) : Evolves s (openBlock s) := by
  unfold openBlock
  split
  next h =>
    obtain ⟨shut, free⟩ := h
    refine Evolves.trans ?_ (recomputeR_evolves _)
    refine .of_moved ?_ id
    simp only [State.staged, Option.isNone_iff_eq_none.mp shut, Option.toList_some, Option.toList_none, List.length_cons,
      List.length_nil]
    omega
  next => exact .refl s

theorem placeRecord_evolves (r : Record) (s : State) : Evolves s (placeRecord r s) := by
  refine .of_moved ?_ id
  simp [placeRecord, State.staged]

theorem sealBlock_evolves (c : SealCause) (s : State) : Evolves s (sealBlock c s) := by
  unfold sealBlock
  split
  next => exact .refl s
  next o opened =>
    refine (Evolves.trans ?_ (recomputeR_evolves _)).trans (raise_evolves _ _)
    refine .of_moved ?_ id
    simp [State.staged, opened]
    omega

theorem mapBlocks_evolves (f : Block → Block) (s : State) : Evolves s (s.mapBlocks f) := by
  refine .of_moved ?_ ?_
  · simp [State.mapBlocks, State.staged]
  · simp [State.mapBlocks, WritesBounded]

theorem joinWaiters_evolves (bsn : Nat) (p : Port) (t : Tag) (s : State) : Evolves s (joinWaiters bsn p t s) := by
  unfold joinWaiters
  dsimp only
  split
  · exact (mapBlocks_evolves _ s).trans (raise_evolves _ _)
  · exact mapBlocks_evolves _ s

theorem dropWaiters_evolves (gone : Port × Tag → Bool) (s : State) : Evolves s (dropWaiters gone s) :=
  mapBlocks_evolves _ s

/-- Buffers that become FREE are counted (R55). -/
theorem freeBuffers_free (k : Nat) (s : State) : (freeBuffers k s).pool.free = s.pool.free + k := by
  unfold freeBuffers
  split
  next zero => simp [zero]
  next => rfl

theorem freeBuffers_staged (k : Nat) (s : State) : (freeBuffers k s).staged = s.staged := by
  simp [State.staged]

/-! ## Admission -/

theorem makeWaiter_evolves (p : Port) (t : Tag) (rsn bsn : Nat) (s : State) : Evolves s (makeWaiter p t rsn bsn s) :=
  (setSlot_evolves p t _ s).trans (joinWaiters_evolves _ _ _ _)

theorem countRecord_evolves (x : StreamId) (rsn : Nat) (s : State) : Evolves s (countRecord x rsn s) := .of_frame

theorem setStream_evolves (x : StreamId) (e : StreamEntry) (s : State) : Evolves s (s.setStream x e) := .of_frame

/-- A next RSN touches nothing that is kept. -/
theorem setNextRsn_evolves (r : Option Nat) (s : State) : Evolves s { s with adu := { s.adu with nextRsn := r } } where
  ports := .of_eq rfl rfl
  buffers := .of_counts rfl rfl rfl rfl
  writes := id
  clock := .of_clock_eq rfl fun e mem => ⟨e, mem, rfl⟩

theorem placeNew_evolves (r : Record) (s : State) : Evolves s (placeNew r s) := by
  unfold placeNew
  refine Evolves.trans (Evolves.trans ?_ (setNextRsn_evolves _ _)) (placeRecord_evolves r _)
  split
  · exact (sealBlock_evolves .full s).trans (openBlock_evolves _)
  · exact .refl s

theorem admitSync_evolves (p : Port) (t : Tag) (s : State) : Evolves s (admitSync p t s) := by
  unfold admitSync
  refine (sealBlock_evolves .sync s).trans ?_
  dsimp only
  split
  · exact reply_evolves _ _ _ _ _
  · exact makeWaiter_evolves _ _ _ _ _

/-- The value of a SET_CLOCK about to be admitted, whose entry stood in the queue of `s`, is bounded where `s` is, and not below
the clock. -/
def ClockAhead (s : State) (clock : Option Nat) (w : Writing) : Prop :=
  ∀ v, w = .setClock v → (ClockBounded s → v ≤ Config.clockMax) ∧ ∀ c, clock = some c → c ≤ v

theorem setClock_evolves {s u : State} {v : Nat} (before : Evolves s u) (ahead : ClockAhead s u.adu.clock (.setClock v)) :
    Evolves s { u with adu := { u.adu with clock := some v } } where
  ports := before.ports.trans (.of_eq rfl rfl)
  buffers := before.buffers.trans (.of_counts rfl rfl rfl rfl)
  writes := before.writes
  clock := by
    intro bounded
    obtain ⟨⟨-, waiting⟩, forward⟩ := before.clock bounded
    obtain ⟨small, notBelow⟩ := ahead v rfl
    refine ⟨⟨fun w set_ => ?_, waiting⟩, fun c set_ => ⟨v, rfl, ?_⟩⟩
    · cases set_
      exact small bounded
    · obtain ⟨d, setD, le⟩ := forward c set_
      exact le.trans (notBelow d setD)

theorem afterRecord_evolves {s u : State} (p : Port) (t : Tag) (w : Writing) (rsn : Nat) (before : Evolves s u)
    (ahead : ClockAhead s u.adu.clock w) : Evolves s (afterRecord p t w rsn u) := by
  match w with
  | .append x true len =>
    exact ((before.trans (countRecord_evolves x rsn u)).trans (sealBlock_evolves .sync _)).trans
      (makeWaiter_evolves _ _ _ _ _)
  | .append x false len => exact (before.trans (countRecord_evolves x rsn u)).trans (reply_evolves _ _ _ _ _)
  | .sync => exact before
  | .setClock v => exact ((setClock_evolves before ahead).trans (postAll_evolves _ _ _)).trans (reply_evolves _ _ _ _ _)
  | .openStream x => exact (before.trans (setStream_evolves x _ u)).trans (reply_evolves _ _ _ _ _)
  | .closeStream x => exact (before.trans (setStream_evolves x _ u)).trans (reply_evolves _ _ _ _ _)

theorem admission_evolves {s u : State} (p : Port) (t : Tag) (w : Writing) (before : Evolves s u)
    (ahead : ClockAhead s u.adu.clock w) : Evolves s (admission p t w u) := by
  unfold admission
  split
  · exact before.trans (admitSync_evolves p t u)
  · exact afterRecord_evolves _ _ _ _ (before.trans (placeNew_evolves _ u)) (by simpa using ahead)

/-! The admission queue, the medium arbiter, the staging drop and the Append Engine keep what `Evolves` says. -/

/-! ## The admission queue -/

/-- The queue keeps no request but those it held. -/
theorem setQueue_evolves (s : State) (q : List Entry)
    (sub : ∀ e ∈ q, ∃ e' ∈ s.adu.queue, e'.request = e.request) : Evolves s (s.setQueue q) where
  ports := .of_eq rfl rfl
  buffers := .of_counts rfl rfl rfl rfl
  writes := id
  clock := .of_clock_eq rfl sub

theorem evalNext_evolves (s : State) : Evolves s (evalNext s) := .ite (fun _ => .refl s) fun _ => raise_evolves _ s

/-- A SET_CLOCK that passes its tests is not below the running clock (R31). -/
theorem not_below_of_granted (s : State) (p : Port) (v : Nat) (granted : s.verdict p (.setClock v) = .granted) :
    ∀ c, s.adu.clock = some c → c ≤ v := by
  intro c set_
  by_contra below
  have above : s.clockAbove v = true := by simp [State.clockAbove, set_]; omega
  unfold State.verdict at granted
  split at granted
  · cases granted
  · simp only [State.kindTest, above] at granted
    split_ifs at granted

theorem evalHead_evolves (s : State) : Evolves s (evalHead s) := by
  unfold evalHead
  split
  next => exact .refl s
  next e rest queue =>
    have dropped := setQueue_evolves s rest fun x mem => ⟨x, queue ▸ List.mem_cons_of_mem e mem, rfl⟩
    split
    next => exact (dropped.trans (reply_evolves _ _ _ _ _)).trans (evalNext_evolves _)
    next => exact (dropped.trans (replyWith_evolves _ _ _ _ _ _ _)).trans (evalNext_evolves _)
    next =>
      refine (sealBlock_evolves .full s).trans (setQueue_evolves _ _ ?_)
      rw [(sealBlock_keeps .full s).2.2.2.1, queue]
      intro x mem
      rcases List.mem_cons.mp mem with rfl | mem
      · exact ⟨e, List.mem_cons_self, rfl⟩
      · exact ⟨x, List.mem_cons_of_mem e mem, rfl⟩
    next granted =>
      refine (admission_evolves _ _ _ dropped ?_).trans (evalNext_evolves _)
      intro v request
      refine ⟨fun bounded => ?_, not_below_of_granted s e.port v (request ▸ granted)⟩
      exact bounded.2 e (queue ▸ List.mem_cons_self) v request

theorem wakeHead_evolves (s : State) : Evolves s (wakeHead s) := by
  unfold wakeHead
  split
  · exact .refl s
  · exact .ite (fun _ => evalHead_evolves s) fun _ => .refl s

theorem removeEntries_evolves (gone : Entry → Bool) (s : State) : Evolves s (removeEntries gone (raise .head) s) := by
  have left := setQueue_evolves s (s.adu.queue.filter fun e => !gone e)
    fun e mem => ⟨e, (List.mem_filter.mp mem).1, rfl⟩
  exact .ite (fun _ => left.trans (raise_evolves _ _)) fun _ => left

theorem refuseEntry_evolves (p : Port) (t : Tag) (st : Status) (s : State) : Evolves s (refuseEntry p t st s) :=
  (reply_evolves p t st .empty s).trans (removeEntries_evolves _ _)

theorem deadlineExpired_evolves (p : Port) (t : Tag) (s : State) : Evolves s (deadlineExpired p t s) :=
  .ite (fun _ => refuseEntry_evolves p t .stalled s) fun _ => .refl s

theorem abortWaiter_evolves (p : Port) (t : Tag) (s : State) : Evolves s (abortWaiter p t s) :=
  (dropWaiters_evolves _ s).trans (reply_evolves _ _ _ _ _)

theorem refuseAll_evolves (st : Status) (entries : List Entry) (s : State) : Evolves s (refuseAll st entries s) := by
  induction entries generalizing s with
  | nil => exact .refl s
  | cons e es ih => exact (reply_evolves _ _ _ _ s).trans (ih _)

theorem refuseQueue_evolves (s : State) : Evolves s (refuseQueue s) :=
  (setQueue_evolves s [] fun _ mem => absurd mem List.not_mem_nil).trans (refuseAll_evolves _ _ _)

theorem purgePort_evolves (p : Port) (s : State) : Evolves s (purgePort p (raise .head) s) :=
  (dropWaiters_evolves _ s).trans (removeEntries_evolves _ _)

/-- The tick takes the clock forward, up to its largest value (R30). -/
theorem tickClock_evolves (s : State) : Evolves s (tickClock s) where
  ports := .of_eq rfl rfl
  buffers := .of_counts rfl rfl rfl rfl
  writes := id
  clock := by
    rintro ⟨now, waiting⟩
    refine ⟨⟨fun v ticked => ?_, waiting⟩, fun c set_ => ⟨min (c + 1) Config.clockMax, by simp [tickClock, set_], ?_⟩⟩
    · obtain ⟨c, -, rfl⟩ := Option.map_eq_some_iff.mp ticked
      exact Nat.min_le_right _ _
    · have := now c set_
      omega

/-! ## The medium port -/

/-- An operation that holds no buffer and is no resting cursor's is issued. -/
theorem issue_evolves (op : DriveOp) (i : Issuer) (s : State)
    (holds : ∀ number, Outstanding.holdsBuffer { op := op, number := number, issuer := i } = false)
    (awake : CursorsRest s → ∀ p, i = .cursor p → ¬(s.cursor p).rests) : Evolves s (issue op i s) := by
  unfold issue
  split
  next idle =>
    refine ⟨.of_eq rfl rfl, fun rest => ⟨?_, fun p resting => ?_⟩, id, .of_adu_eq rfl⟩
    · simp [State.bufferTotal_eq, heldByLink_some, holds, idle, State.staged]
    · obtain ⟨phase, none_, -⟩ := rest p resting
      refine ⟨phase, none_, fun o linked own => ?_⟩
      simp only [MediumPort.send, Option.some.injEq] at linked
      exact awake rest p (by rw [← own, ← linked]) resting
  next => exact .refl s

/-- The operations of the Control Unit, the Volume Manager and the Append Engine. -/
theorem issue_evolves_of_owner (op : DriveOp) (i : Issuer) (s : State)
    (owner : i = .control ∨ i = .volume ∨ i = .engine := by simp) : Evolves s (issue op i s) := by
  obtain rfl | rfl | rfl := owner <;>
    exact issue_evolves op _ s (fun _ => by cases op <;> rfl) fun _ p own => Issuer.noConfusion own

/-- The link becomes IDLE at the end of an operation that holds no buffer. -/
theorem endOperation_evolves (head : Option Nat) (s : State)
    (holds : ∀ o, s.mpt.link = some o → o.holdsBuffer = false) : Evolves s (endOperation head s) := by
  refine ⟨.of_eq rfl rfl, fun rest => ⟨?_, fun p resting => ?_⟩, id, .of_adu_eq rfl⟩
  · have free : heldByLink s.mpt.link = 0 := by
      cases linked : s.mpt.link with
      | none => rfl
      | some o => simp [heldByLink_some, holds o linked]
    simp [State.bufferTotal_eq, free, endOperation, State.staged]
  · obtain ⟨phase, none_, -⟩ := rest p resting
    exact ⟨phase, none_, fun o linked => by cases linked⟩

theorem issueWrite_evolves (n : Nat) (bytes : List Byte) (s : State) : Evolves s (issueWrite n bytes s) := by
  refine (issue_evolves_of_owner (.write n bytes) .engine s).trans ?_
  exact .of_frame (link := by simp [issueWrite])

theorem handOver_evolves (s : State) : Evolves s (handOver s) := .of_frame

theorem request_evolves (c : Client) (s : State) : Evolves s (request c s) := .of_frame

theorem release_evolves (c : Client) (s : State) : Evolves s (release c s) := .of_frame

theorem letGo_evolves (c : Client) (s : State) : Evolves s (letGo c s) := .of_frame

theorem setEngine_evolves (st : EngineState) (s : State) : Evolves s (s.setEngine st) := .of_frame

theorem setVol_evolves (st : VolState) (s : State) : Evolves s (s.setVol st) := .of_frame

theorem setVom_evolves (v : VolumeRecord) (s : State) : Evolves s { s with vom := v } := .of_frame

/-! The staging drop and the Append Engine keep what `Evolves` says. -/

/-! ## The staging drop and a write fault -/

theorem lostWaiters_evolves (ws : List (Port × Tag)) (s : State) : Evolves s (lostWaiters ws s) := by
  induction ws generalizing s with
  | nil => exact .refl s
  | cons w ws ih => exact (reply_evolves _ _ _ _ s).trans (ih _)

@[simp] theorem teardownEngine_emptied (s : State) :
    (teardownEngine s).ape.unverified = [] ∧ (teardownEngine s).ape.inWrite = none := by
  simp [teardownEngine, Engine.reset]

/-- Every staged buffer becomes FREE (R56). -/
theorem dropStaging_evolves (s : State) : Evolves s (dropStaging s) := by
  unfold dropStaging
  refine (lostWaiters_evolves ((sortBlocks s.writtenBlocks).flatMap fun b => b.waiters) s).trans ?_
  refine .of_moved ?_ ?_
  · simp [freeBuffers_free, State.staged]
  · simp [WritesBounded]

theorem beginEject_evolves (s : State) : Evolves s (beginEject s) := .of_frame

theorem writeFault_evolves (cause : FaultCause) (s : State) : Evolves s (writeFault cause s) := by
  refine .ite (fun _ => ?_) fun _ => .refl s
  have faulted := (((setVom_evolves { s.vom with state := .faulted, cause := some cause } s).trans
    (refuseQueue_evolves _)).trans (dropStaging_evolves _)).trans
    (postAll_evolves Port.all (.writeFailed cause s.stagedRecords) _)
  dsimp only
  split
  · exact (faulted.trans (setVom_evolves _ _)).trans (beginEject_evolves _)
  · exact faulted

theorem drainCheck_evolves (s : State) : Evolves s (drainCheck s) := .of_frame

/-! ## Starting, positioning, writing -/

theorem startEval_evolves (s : State) : Evolves s (startEval s) :=
  .ite (fun _ => (setEngine_evolves _ s).trans (request_evolves _ _)) fun _ => .refl s

theorem seekToP_evolves (s : State) : Evolves s (seekToP s) :=
  (setEngine_evolves _ s).trans (issue_evolves_of_owner _ _ _)

/-- The block at the head of the sealed queue becomes the one being written, where none is (R79). -/
theorem writeHead_evolves (b : Block) (rest : List Block) (s : State) (sealed_ : s.pool.sealed = b :: rest)
    (idle : s.ape.inWrite = none) (few : s.ape.unverified.length < 3) : Evolves s (writeHead b rest s) := by
  unfold writeHead
  refine (Evolves.trans ?_ (issueWrite_evolves _ _ _)).trans (recomputeR_evolves _)
  refine .of_moved ?_ fun _ => ?_
  · simp [State.staged, sealed_, idle]
    omega
  · simp [WritesBounded]
    omega

theorem writeCheck_evolves (s : State) : Evolves s (writeCheck s) := by
  unfold writeCheck
  split
  next => exact .refl s
  next b rest sealed_ =>
    refine .ite (fun ready => ?_) fun _ => .refl s
    obtain ⟨-, idle, few, -⟩ := ready
    refine .ite (fun _ => writeFault_evolves _ s) fun _ => .ite (fun _ => ?_) fun _ => seekToP_evolves s
    exact writeHead_evolves b rest s sealed_ idle few

/-! ## The end of a burst, and yielding -/

theorem burstEnd_evolves (s : State) : Evolves s (burstEnd s) :=
  .ite (fun _ => ((setEngine_evolves _ s).trans (letGo_evolves _ _)).trans (raise_evolves _ _)) fun _ => .refl s

theorem yieldGrant_evolves (s : State) : Evolves s (yieldGrant s) := by
  refine .ite (fun _ => ((setEngine_evolves _ s).trans (letGo_evolves _ _)).trans (raise_evolves _ _)) fun _ => ?_
  refine Evolves.trans ?_ (release_evolves _ _)
  exact .of_frame

theorem engineSettle_evolves (s : State) : Evolves s (engineSettle s) :=
  .ite (fun _ => .ite (fun _ => .ite (fun _ => yieldGrant_evolves s) fun _ => .refl s)
    fun _ => (writeCheck_evolves s).trans (burstEnd_evolves _)) fun _ => .refl s

theorem engineCheck_evolves (s : State) : Evolves s (engineCheck s) := by
  unfold engineCheck
  split
  · exact engineSettle_evolves s
  · exact burstEnd_evolves s
  all_goals exact .refl s

theorem engineGranted_evolves (s : State) : Evolves s (engineGranted s) :=
  .ite (fun _ => .ite (fun _ => seekToP_evolves s) fun _ => (setEngine_evolves _ s).trans (engineSettle_evolves _))
    fun _ => .refl s

theorem engineSeekDone_evolves (s : State) : Evolves s (engineSeekDone s) :=
  .ite (fun _ => (setEngine_evolves _ s).trans (engineSettle_evolves _)) fun _ => .refl s

theorem engineYield_evolves (s : State) : Evolves s (engineYield s) :=
  .ite (fun _ => engineSettle_evolves s) fun _ => .refl s

theorem engineStart_evolves (s : State) : Evolves s (engineStart s) := by
  unfold engineStart
  split
  · exact startEval_evolves s
  · exact engineSettle_evolves s
  all_goals exact .refl s

/-! ## Completions of a write -/

theorem afterFailure_evolves (attempts : Nat) (s : State) : Evolves s (afterFailure attempts s) :=
  .ite (fun _ => writeFault_evolves _ s) fun _ => engineSettle_evolves s

@[simp] theorem length_insertBlock (b : Block) (bs : List Block) : (insertBlock b bs).length = bs.length + 1 := by
  induction bs with
  | nil => rfl
  | cons x xs ih =>
    unfold insertBlock
    split <;> simp [ih]

/-- The block that was being written goes back to the sealed queue (R48). -/
theorem returnBlock_evolves (b : Block) (s : State) (w : InWrite) (writing : s.ape.inWrite = some w) :
    Evolves s (returnBlock b { s with ape := { s.ape with inWrite := none } }) := by
  unfold returnBlock
  refine Evolves.trans ?_ (recomputeR_evolves _)
  refine .of_moved ?_ ?_
  · simp [State.staged, writing]
    omega
  · simp [WritesBounded, writing]
    omega

theorem writeEnded_evolves (ok : Bool) (s : State) : Evolves s (writeEnded ok s) := by
  unfold writeEnded
  split
  next => exact .refl s
  next w writing =>
    refine .ite (fun _ => (returnBlock_evolves _ s w writing).trans (engineSettle_evolves _)) fun _ =>
      .ite (fun _ => ?_) fun _ => (returnBlock_evolves _ s w writing).trans (afterFailure_evolves _ _)
    refine Evolves.trans ?_ (engineSettle_evolves _)
    refine .of_moved ?_ ?_
    · simp [State.staged, writing]
      omega
    · simp [WritesBounded, writing]
      omega

/-! ## Verify reports -/

theorem doneWaiters_evolves (bsn slot : Nat) (ws : List (Port × Tag)) (s : State) :
    Evolves s (doneWaiters bsn slot ws s) := by
  induction ws generalizing s with
  | nil => exact .refl s
  | cons w ws ih => exact (reply_evolves _ _ _ _ s).trans (ih _)

/-- The head entry of the unverified list becomes durable: its buffer is FREE (R88). -/
theorem makeDurable_evolves (u : Unverified) (rest : List Unverified) (s : State) (head : s.ape.unverified = u :: rest) :
    Evolves s (makeDurable u rest s) := by
  have answered := doneWaiters_evolves u.block.bsn u.slot u.block.waiters { s with
    ape := { s.ape with unverified := rest }
    vom := { s.vom with frontier := some u.block.bsn, frontierSlot := some u.slot,
                        highestRsn := some (lastRsnOf u.block.firstRsn u.block.count) } }
  refine ⟨answered.ports, fun resting => ?_, fun bounded => ?_, answered.clock⟩
  · have moved : BuffersConserved s (makeDurable u rest s) := by
      refine .of_moved ?_ ?_ ?_ <;> simp [makeDurable, State.staged, head]
      omega
    exact moved resting
  · have : s.ape.inWrite.toList.length + s.ape.unverified.length ≤ 3 := bounded
    simp [WritesBounded, makeDurable, head] at this ⊢
    omega

theorem advance_evolves (entries : List Unverified) (s : State) (all : s.ape.unverified = entries) :
    Evolves s (advance entries s) := by
  induction entries generalizing s with
  | nil => exact .refl s
  | cons u rest ih =>
    have durable := makeDurable_evolves u rest s all
    have left : (makeDurable u rest s).ape.unverified = rest := by simp [makeDurable]
    unfold advance
    dsimp only
    split
    · exact durable
    · exact .ite (fun _ => durable.trans (ih _ left)) fun _ => durable

/-- The blocks from one entry on go back to the sealed queue (R85). -/
theorem relocate_evolves (i : Nat) (s : State) : Evolves s (relocate i s) := by
  unfold relocate
  split
  next => exact .refl s
  next u later dropped =>
    have length := congrArg List.length (List.take_append_drop i s.ape.unverified)
    rw [dropped, List.length_append, List.length_cons] at length
    refine (Evolves.trans ?_ (recomputeR_evolves _)).trans (afterFailure_evolves _ _)
    refine .of_moved ?_ fun bounded => ?_
    · simp [State.staged] at length ⊢
      omega
    · have : s.ape.inWrite.toList.length + s.ape.unverified.length ≤ 3 := bounded
      simp [WritesBounded] at length ⊢
      omega

theorem verifyReport_evolves (slot : Nat) (pass : Bool) (s : State) : Evolves s (verifyReport slot pass s) := by
  unfold verifyReport
  split
  · exact .refl s
  · split
    · exact .refl s
    · refine .ite (fun _ => .refl s) fun _ => .ite (fun _ => relocate_evolves _ s) fun _ => .ite (fun _ => ?_) fun _ => ?_
      · exact (((advance_evolves _ s rfl).trans (raise_evolves _ _)).trans (raise_evolves _ _)).trans (raise_evolves _ _)
      · refine .of_moved ?_ ?_ <;> simp [State.staged, WritesBounded]

theorem verifyExpired_evolves (slot : Nat) (s : State) : Evolves s (verifyExpired slot s) := by
  unfold verifyExpired
  split
  · exact .refl s
  · exact .ite (fun _ => relocate_evolves _ s) fun _ => .refl s

theorem startAgeExpired_evolves (bsn : Nat) (s : State) : Evolves s (startAgeExpired bsn s) := by
  refine .ite (fun _ => Evolves.trans ?_ (raise_evolves _ _)) fun _ => .refl s
  exact .of_moved (by simp [State.staged]) id

theorem sealExpired_evolves (s : State) : Evolves s (sealExpired s) :=
  .ite (fun _ => sealBlock_evolves .timer s) fun _ => .refl s

/-! The Replay Engine keeps what `Evolves` says. -/

/-! ## Writing a cursor -/

/-- A cursor is written, and the buffers that leave its list become FREE. -/
theorem exchange_evolves (p : Port) (c : Cursor) (k : Nat) (s : State)
    (length : CursorsRest s → c.buffered.length + k = (s.cursor p).buffered.length)
    (rests : CursorsRest s → c.rests → c.phase = .idle ∧ c.buffered = [] ∧ ∀ o, s.mpt.link = some o → o.issuer ≠ .cursor p) :
    Evolves s (freeBuffers k (s.setCursor p c)) := by
  refine ⟨.of_eq (by simp) (by simp), fun rest => ⟨?_, fun q resting => ?_⟩, by simp [WritesBounded], .of_adu_eq (by simp)⟩
  · have exchange := s.cursorBuffers_setCursor p c
    have := length rest
    simp [State.bufferTotal_eq, freeBuffers_free, freeBuffers_staged]
    simp [State.staged] at *
    omega
  · have cursor : (freeBuffers k (s.setCursor p c)).cursor q = if p = q then c else s.cursor q := by
      rw [← s.cursor_setCursor, State.cursor, State.cursor, (freeBuffers_keeps k (s.setCursor p c)).2.2.2.2.2.2.2.2.2.2.1]
    rw [cursor] at resting ⊢
    simp only [(freeBuffers_keeps k (s.setCursor p c)).2.2.2.2.2.1, State.setCursor_mpt]
    by_cases at_ : p = q
    · subst at_
      rw [if_pos rfl] at resting ⊢
      exact rests rest resting
    · rw [if_neg at_] at resting ⊢
      exact rest q resting

/-- A cursor is written whose buffers stay, and which rests only where it did. -/
theorem setCursor_evolves (p : Port) (c : Cursor) (s : State)
    (length : CursorsRest s → c.buffered.length = (s.cursor p).buffered.length)
    (rests : CursorsRest s → c.rests → (s.cursor p).rests ∧ ((s.cursor p).phase = .idle → c.phase = .idle)) :
    Evolves s (s.setCursor p c) := by
  refine exchange_evolves p c 0 s length fun rest resting => ?_
  obtain ⟨before, phase⟩ := rests rest resting
  obtain ⟨idle, none_, link⟩ := rest p before
  refine ⟨phase idle, ?_, link⟩
  have := length rest
  rw [none_] at this
  exact List.length_eq_zero_iff.mp this

/-- A derived state is neither CLOSED nor FAILED (R121). -/
theorem Cursor.rests_derive {c : Cursor} {v : VolumeRecord} (resting : (c.derive v).rests) : c.rests ∧ c.derive v = c := by
  unfold Cursor.derive at *
  split at resting
  next rests => exact ⟨rests, if_pos rests⟩
  next awake =>
    split_ifs at resting <;> simp [Cursor.rests] at resting

@[simp] theorem Cursor.derive_keeps (c : Cursor) (v : VolumeRecord) :
    (c.derive v).buffered = c.buffered ∧ (c.derive v).phase = c.phase ∧ (c.derive v).readPos = c.readPos ∧
    (c.derive v).expected = c.expected ∧ (c.derive v).last = c.last ∧ (c.derive v).candidate = c.candidate ∧
    (c.derive v).skipped = c.skipped ∧ (c.derive v).hold = c.hold ∧ (c.derive v).filter = c.filter ∧
    (c.derive v).next = c.next ∧ (c.derive v).gap = c.gap ∧ (c.derive v).reads = c.reads ∧
    (c.derive v).inUse = c.inUse ∧ (c.derive v).inFlight = c.inFlight := by
  unfold Cursor.derive
  split_ifs <;> simp

theorem deriveCursor_evolves (p : Port) (s : State) : Evolves s (deriveCursor p s) := by
  refine setCursor_evolves p _ s (fun _ => by simp) fun _ resting => ?_
  obtain ⟨before, same⟩ := Cursor.rests_derive resting
  exact ⟨before, fun idle => by rw [same]; exact idle⟩

/-! ## The fill check and the answers to REPLAY_NEXT -/

theorem State.awake_of_fillWanted {s : State} {c : Cursor} (wanted : s.fillWanted c = true) : ¬c.rests := by
  rintro (closed | failed)
  · simp [State.fillWanted, closed] at wanted
  · simp [State.fillWanted, failed] at wanted

theorem fillCheck_evolves (p : Port) (s : State) : Evolves s (fillCheck p s) := by
  refine .ite (fun wanted => ?_) fun _ => .ite (fun _ => ?_) fun _ => .refl s
  · refine Evolves.trans ?_ (request_evolves _ _)
    refine setCursor_evolves p _ s (fun _ => rfl) fun _ resting => ?_
    exact absurd (show (s.cursor p).rests from resting) (State.awake_of_fillWanted wanted)
  · exact setCursor_evolves p _ s (fun _ => rfl) fun _ resting => ⟨resting, fun _ => rfl⟩

theorem replyEndOfData_evolves (p : Port) (t : Tag) (s : State) : Evolves s (replyEndOfData p t s) := by
  refine Evolves.trans ?_ (replyWith_evolves _ _ _ _ _ _ _)
  exact setCursor_evolves p _ s (fun _ => rfl) fun _ resting => ⟨resting, id⟩

/-- An answer leaves the cursors as they are. -/
@[simp] theorem State.cursor_replyWith (p q : Port) (t : Tag) (st : Status) (body : ReplyBody) (already gap : Bool)
    (s : State) : (replyWith p t st body already gap s).cursor q = s.cursor q := by
  simp [State.cursor]

@[simp] theorem State.cursor_reply (p q : Port) (t : Tag) (st : Status) (body : ReplyBody) (s : State) :
    (reply p t st body s).cursor q = s.cursor q := by
  simp [State.cursor]

theorem deliver_evolves (p : Port) (t : Tag) (s : State) : Evolves s (deliver p t s) := by
  unfold deliver
  dsimp only
  split
  next => exact .refl s
  next b rest buffered =>
    refine (((replyWith_evolves _ _ _ _ _ _ s).trans (exchange_evolves _ _ _ _ ?_ ?_)).trans
      (deriveCursor_evolves _ _)).trans (fillCheck_evolves _ _)
    · intro _
      simp [buffered]
    · intro resting rests
      obtain ⟨-, none_, -⟩ := resting p (by rw [State.cursor_replyWith]; exact rests)
      rw [State.cursor_replyWith, buffered] at none_
      exact absurd none_ (List.cons_ne_nil b rest)

theorem noNext_evolves (p : Port) (s : State) : Evolves s (s.setCursor p (s.cursor p).noNext) :=
  setCursor_evolves p _ s (fun _ => rfl) fun _ resting => ⟨resting, id⟩

theorem deliverPending_evolves (p : Port) (s : State) : Evolves s (deliverPending p s) := by
  unfold deliverPending
  dsimp only
  split
  · exact .ite (fun _ => .refl s) fun _ => (noNext_evolves p s).trans (deliver_evolves _ _ _)
  · exact .refl s

theorem endPending_evolves (p : Port) (s : State) : Evolves s (endPending p s) := by
  unfold endPending
  dsimp only
  split
  · exact .ite (fun _ => (noNext_evolves p s).trans (replyEndOfData_evolves _ _ _)) fun _ => .refl s
  · exact .refl s

theorem keepNext_evolves (p : Port) (t : Tag) (s : State) : Evolves s (keepNext p t s) :=
  (setTagState_evolves p t .pending s).trans (setCursor_evolves p _ _ (fun _ => rfl) fun _ resting => ⟨resting, id⟩)

theorem replayNext_evolves (p : Port) (t : Tag) (s : State) : Evolves s (replayNext p t s) := by
  unfold replayNext
  split
  · exact reply_evolves _ _ _ _ _
  · exact reply_evolves _ _ _ _ _
  · exact deliver_evolves p t s
  · refine ((deriveCursor_evolves p s).trans (fillCheck_evolves p _)).trans ?_
    exact .ite (fun _ => keepNext_evolves p t _) fun _ => replyEndOfData_evolves p t _
  · refine .ite (fun _ => (keepNext_evolves p t s).trans ?_) fun _ => reply_evolves _ _ _ _ _
    exact .ite (fun _ => fillCheck_evolves p _) fun _ => .refl _

theorem abortNext_evolves (p : Port) (t : Tag) (s : State) : Evolves s (abortNext p t s) :=
  (noNext_evolves p s).trans (reply_evolves _ _ _ _ _)

/-! ## Fills -/

/-- A cursor in a phase other than IDLE does not rest. -/
theorem awake_of_phase {s : State} {p : Port} (busy : (s.cursor p).phase ≠ .idle) (rest : CursorsRest s) :
    ¬(s.cursor p).rests :=
  fun resting => busy (rest p resting).1

/-- A cursor at work is written with its state and its buffers as they were. -/
theorem setBusy_evolves (p : Port) (c : Cursor) (s : State) (busy : (s.cursor p).phase ≠ .idle)
    (state : c.state = (s.cursor p).state) (buffered : c.buffered = (s.cursor p).buffered) :
    Evolves s (s.setCursor p c) := by
  refine setCursor_evolves p c s (fun _ => by rw [buffered]) fun rest resting => ?_
  rw [Cursor.rests, state] at resting
  exact absurd resting (awake_of_phase busy rest)

theorem stopFill_evolves (p : Port) (phase : Phase) (s : State) (busy : (s.cursor p).phase ≠ .idle) :
    Evolves s (stopFill p phase s) := by
  have stopped := (((setBusy_evolves p { s.cursor p with phase := phase } s busy rfl rfl).trans
    (release_evolves (.cursor p) _)).trans (deriveCursor_evolves p _)).trans (endPending_evolves p _)
  exact .ite (fun _ => stopped) fun _ => stopped.trans (fillCheck_evolves p _)

/-- A buffer is taken for the read that is issued (R53, R125). -/
theorem take_evolves (p : Port) (n reads : Nat) (s : State) (busy : (s.cursor p).phase ≠ .idle)
    (granted : s.takeGranted = true) (idle : s.mpt.link = none) :
    Evolves s (issue (.read n) (.cursor p) ({ s with pool := { s.pool with free := s.pool.free - 1 } }.setCursor p
      { s.cursor p with inFlight := true, reads := reads })) := by
  have free : 0 < s.pool.free := by
    simp [State.takeGranted] at granted
    omega
  unfold issue
  rw [if_pos (by simpa using idle)]
  refine ⟨.of_eq rfl rfl, fun rest => ⟨?_, fun q resting => ?_⟩, id, .of_adu_eq rfl⟩
  · have exchange := s.cursorBuffers_setCursor p { s.cursor p with inFlight := true, reads := reads }
    simp [State.bufferTotal_eq, heldByLink_some, idle, Outstanding.holdsBuffer, State.staged] at exchange ⊢
    omega
  · have cursor := s.cursor_setCursor p q { s.cursor p with inFlight := true, reads := reads }
    change ((s.setCursor p { s.cursor p with inFlight := true, reads := reads }).cursor q).rests at resting
    by_cases at_ : p = q
    · subst at_
      rw [cursor, if_pos rfl] at resting
      exact absurd resting (awake_of_phase busy rest)
    · rw [cursor, if_neg at_] at resting
      obtain ⟨phase, none_, -⟩ := rest q resting
      change ((s.setCursor p { s.cursor p with inFlight := true, reads := reads }).cursor q).phase = .idle ∧
        ((s.setCursor p { s.cursor p with inFlight := true, reads := reads }).cursor q).buffered = [] ∧ _
      rw [cursor, if_neg at_]
      refine ⟨phase, none_, fun o linked own => at_ ?_⟩
      simp only [MediumPort.send, Option.some.injEq] at linked
      rw [← linked] at own
      exact Issuer.cursor.inj own

theorem fillStep_evolves (p : Port) (s : State) : Evolves s (fillStep p s) := by
  refine .ite (fun ready => ?_) fun _ => .refl s
  obtain ⟨reading, idle⟩ := ready
  have busy : (s.cursor p).phase ≠ .idle := by
    simp only [State.reading, Bool.and_eq_true, beq_iff_eq] at reading
    simp [reading.2]
  refine .ite (fun _ => stopFill_evolves p .idle s busy) fun _ => .ite (fun _ => ?_) fun _ =>
    .ite (fun granted => take_evolves p _ _ s busy granted idle) fun _ => stopFill_evolves p .starved s busy
  refine issue_evolves _ _ s (fun _ => rfl) fun rest q own => ?_
  cases own
  exact awake_of_phase busy rest

theorem cursorGranted_evolves (p : Port) (s : State) : Evolves s (cursorGranted p s) := by
  refine .ite (fun asked => Evolves.trans ?_ (fillStep_evolves p _)) fun _ => .refl s
  exact setBusy_evolves p _ s (by simp [asked.2]) rfl rfl

/-! ## The end of a read -/

/-- Port p's read ends; its cursor is written, and the buffer is in its list or FREE. -/
theorem readEnded_evolves (p : Port) (head : Option Nat) (c : Cursor) (k : Nat) (s : State) (o : Outstanding)
    (linked : s.mpt.link = some o) (holds : o.holdsBuffer = true) (own : o.issuer = .cursor p)
    (length : c.buffered.length + k = (s.cursor p).buffered.length + 1) (rests : c.rests → (s.cursor p).rests) :
    Evolves s (freeBuffers k ((endOperation head s).setCursor p c)) := by
  refine ⟨.of_eq (by simp) (by simp), fun rest => ⟨?_, fun q resting => ?_⟩, by simp [WritesBounded], .of_adu_eq (by simp)⟩
  · have exchange := s.cursorBuffers_setCursor p c
    simp [State.bufferTotal_eq, freeBuffers_free, freeBuffers_staged, linked, heldByLink_some, holds]
    simp [State.staged, endOperation] at *
    omega
  · have cursor : (freeBuffers k ((endOperation head s).setCursor p c)).cursor q = if p = q then c else s.cursor q := by
      rw [← s.cursor_setCursor, State.cursor, State.cursor]
      simp
    have noLink : (freeBuffers k ((endOperation head s).setCursor p c)).mpt.link = none := by
      simp [endOperation]
    rw [cursor] at resting ⊢
    rw [noLink]
    by_cases at_ : p = q
    · subst at_
      rw [if_pos rfl] at resting
      exact absurd own ((rest p (rests resting)).2.2 o linked)
    · rw [if_neg at_] at resting ⊢
      obtain ⟨phase, none_, -⟩ := rest q resting
      exact ⟨phase, none_, fun _ none => by cases none⟩

/-- The buffer of a read whose cursor is closed becomes FREE. -/
theorem closedReadEnded_evolves (head : Option Nat) (s : State) (o : Outstanding) (linked : s.mpt.link = some o)
    (holds : o.holdsBuffer = true) : Evolves s (freeBuffers 1 (endOperation head s)) := by
  refine ⟨.of_eq (by simp) (by simp), fun rest => ⟨?_, fun q resting => ?_⟩, by simp [WritesBounded], .of_adu_eq (by simp)⟩
  · simp [State.bufferTotal_eq, freeBuffers_free, freeBuffers_staged, linked, heldByLink_some, holds]
    simp [State.staged, endOperation]
    omega
  · have cursor : (freeBuffers 1 (endOperation head s)).cursor q = s.cursor q := by simp [State.cursor]
    rw [cursor] at resting ⊢
    obtain ⟨phase, none_, -⟩ := rest q resting
    exact ⟨phase, none_, fun _ linked' => by simp [endOperation] at linked'⟩

/-- Resynchronisation and its check touch neither the state of a cursor nor its buffers (R129, R130). -/
@[simp] theorem Cursor.checkLost_keeps (c : Cursor) (v : VolumeRecord) :
    (c.checkLost v).state = c.state ∧ (c.checkLost v).phase = c.phase ∧ (c.checkLost v).buffered = c.buffered := by
  unfold Cursor.checkLost
  split
  · split <;> simp [Cursor.resync]
  · simp

@[simp] theorem Cursor.stopAt_keeps (c : Cursor) (slot bsn : Nat) :
    (c.stopAt slot bsn).state = c.state ∧ (c.stopAt slot bsn).phase = c.phase ∧
      (c.stopAt slot bsn).buffered = c.buffered := by
  unfold Cursor.stopAt
  split <;> simp [Cursor.resync]

@[simp] theorem Cursor.acceptSlot_keeps (c : Cursor) (slot bsn : Nat) (image : List Byte) (keep : Bool) :
    (c.acceptSlot slot bsn image keep).state = c.state ∧ (c.acceptSlot slot bsn image keep).phase = c.phase ∧
      (c.acceptSlot slot bsn image keep).buffered.length = c.buffered.length + (if keep then 1 else 0) := by
  cases keep <;> simp [Cursor.acceptSlot]

/-- The BSN of a slot's header; 0 where it is not GOOD. -/
def SlotClass.bsn : SlotClass → Nat
  | .good h => h.bsn
  | .blank | .bad => 0

/-- A cursor behind the slot whose read has just ended. -/
def Cursor.readBeyond (c : Cursor) (slot : Nat) : Cursor :=
  { c with inFlight := false, readPos := some (slot + 1), hold := none }

/-- What a judgement makes of a cursor behind the slot, and whether the buffer is kept (R127 to R131). -/
def Cursor.judged (c : Cursor) (v : VolumeRecord) (slot bsn : Nat) (image : List Byte) : Judgement → Cursor × Bool
  | .skip => (c.skip.checkLost v, false)
  | .skipAbove => ((({ c with candidate := some (c.candidate.getD (slot, bsn)) } : Cursor).skip).checkLost v, false)
  | .frontierStop => (c.stopAt slot bsn, false)
  | .accept =>
    ((c.acceptSlot slot bsn image (!(c.filter.select image).isEmpty)).checkLost v, !(c.filter.select image).isEmpty)

theorem Cursor.afterRead_eq (c : Cursor) (v : VolumeRecord) (slot : Nat) (cls : SlotClass) (image : List Byte) :
    c.afterRead v slot cls image =
      (c.readBeyond slot).judged v slot cls.bsn image ((c.readBeyond slot).judge v.frontier cls) := by
  cases cls <;> rfl

/-- A completed read leaves the state of the cursor, and one block more where the buffer is kept (R127 to R131). -/
theorem Cursor.afterRead_keeps (c : Cursor) (v : VolumeRecord) (slot : Nat) (cls : SlotClass) (image : List Byte) :
    (c.afterRead v slot cls image).1.state = c.state ∧
      (c.afterRead v slot cls image).1.buffered.length =
        c.buffered.length + (if (c.afterRead v slot cls image).2 then 1 else 0) := by
  rw [Cursor.afterRead_eq]
  cases (c.readBeyond slot).judge v.frontier cls <;> simp [Cursor.judged, Cursor.skip, Cursor.readBeyond]

theorem cursorRead_evolves (p : Port) (slot : Nat) (cls : SlotClass) (image : List Byte) (head : Option Nat) (s : State)
    (o : Outstanding) (linked : s.mpt.link = some o) (holds : o.holdsBuffer = true) (own : o.issuer = .cursor p) :
    Evolves s (cursorRead p slot cls image (endOperation head s)) := by
  unfold cursorRead
  have cursor : (endOperation head s).cursor p = s.cursor p := rfl
  have vom : (endOperation head s).vom = s.vom := rfl
  rw [cursor, vom]
  obtain ⟨state, length⟩ := (s.cursor p).afterRead_keeps s.vom slot cls image
  generalize (s.cursor p).afterRead s.vom slot cls image = r at state length
  have written : deriveCursor p ((endOperation head s).setCursor p r.1) =
      (endOperation head s).setCursor p (r.1.derive s.vom) := by
    simp [deriveCursor]
  have rests : (r.1.derive s.vom).rests → (s.cursor p).rests := by
    intro resting
    have := (Cursor.rests_derive resting).1
    simpa only [Cursor.rests, state] using this
  dsimp only
  rw [written]
  refine Evolves.trans ?_ (fillStep_evolves p _)
  split
  next kept =>
    refine Evolves.trans ?_ (deliverPending_evolves p _)
    exact readEnded_evolves p head _ 0 s o linked holds own (by simp [length, kept]) rests
  next dropped => exact readEnded_evolves p head _ 1 s o linked holds own (by simp [length, dropped]) rests

/-! ## Opening, closing and losing a cursor -/

theorem holdsBuffer_closed (o : Outstanding) (p : Port) :
    Outstanding.holdsBuffer { o with issuer := o.issuer.closed p } = o.holdsBuffer := by
  obtain ⟨op, number, issuer⟩ := o
  unfold Issuer.closed
  split
  next own =>
    subst own
    cases op <;> rfl
  next => rfl

/-- An operation that is told of the closing of a cursor is not that cursor's. -/
theorem Issuer.closed_ne (i : Issuer) (p : Port) : i.closed p ≠ .cursor p := by
  unfold Issuer.closed
  split
  · simp
  · assumption

theorem markClosed_evolves (p : Port) (s : State) : Evolves s (markClosed p s) := by
  refine ⟨.of_eq rfl rfl, fun rest => ⟨?_, fun q resting => ?_⟩, id, .of_adu_eq rfl⟩
  · have held : heldByLink (s.mpt.link.map fun o => { o with issuer := o.issuer.closed p }) = heldByLink s.mpt.link := by
      cases s.mpt.link with
      | none => rfl
      | some o => simp [heldByLink_some, holdsBuffer_closed]
    simp [State.bufferTotal_eq, markClosed, held, State.staged]
  · obtain ⟨phase, none_, link⟩ := rest q resting
    refine ⟨phase, none_, fun o linked own => ?_⟩
    obtain ⟨o', linked', rfl⟩ := Option.map_eq_some_iff.mp linked
    refine link o' linked' ?_
    simp only [Issuer.closed] at own
    split at own
    · cases own
    · exact own

theorem answerNext_evolves (p : Port) (st : Status) (s : State) : Evolves s (answerNext p st s) := by
  unfold answerNext
  split
  · exact reply_evolves _ _ _ _ _
  · exact .refl s

/-- A cursor lets go of everything and is set to one that buffers nothing (R135, R137). -/
theorem dropCursor_evolves (p : Port) (c : Cursor) (s : State) (phase : c.phase = .idle) (none_ : c.buffered = []) :
    Evolves s (dropCursor p c s) := by
  unfold dropCursor
  refine ((markClosed_evolves p s).trans (letGo_evolves (.cursor p) _)).trans (exchange_evolves _ _ _ _ ?_ ?_)
  · intro _
    simp [none_, State.cursor]
  · intro _ _
    refine ⟨phase, none_, fun o linked => ?_⟩
    rw [(letGo_keeps (.cursor p) (markClosed p s)).2.2.2.2.2.2.2.2.2.2.2.2.2.1] at linked
    obtain ⟨o', -, rfl⟩ := Option.map_eq_some_iff.mp linked
    exact Issuer.closed_ne _ p

theorem closeCursor_evolves (p : Port) (answer : Bool) (s : State) : Evolves s (closeCursor p answer s) := by
  refine .ite (fun _ => .refl s) fun _ => Evolves.trans ?_ (dropCursor_evolves p Cursor.reset _ rfl rfl)
  exact .ite (fun _ => answerNext_evolves p .aborted s) fun _ => .refl s

theorem replayClose_evolves (p : Port) (t : Tag) (s : State) : Evolves s (replayClose p t s) :=
  (closeCursor_evolves p true s).trans (reply_evolves _ _ _ _ _)

theorem dropCursor_cursor (p : Port) (c : Cursor) (s : State) : (dropCursor p c s).cursor p = c := by
  simp [dropCursor, State.cursor]

/-- A closed cursor buffers nothing. -/
theorem closeCursor_buffered (p : Port) (answer : Bool) (s : State) (rest : CursorsRest (closeCursor p answer s)) :
    ((closeCursor p answer s).cursor p).buffered = [] := by
  refine (rest p (.inl ?_)).2.1
  unfold closeCursor
  split
  next closed => exact closed
  next => rw [dropCursor_cursor]; rfl

theorem replayOpen_evolves (p : Port) (t : Tag) (st : Start) (f : Filter) (s : State) :
    Evolves s (replayOpen p t st f s) := by
  unfold replayOpen
  split
  · exact reply_evolves _ _ _ _ _
  · refine (((closeCursor_evolves p true s).trans (setCursor_evolves p _ _ ?_ ?_)).trans
      (deriveCursor_evolves p _)).trans ((reply_evolves _ _ _ _ _).trans (fillCheck_evolves p _))
    · intro rest
      rw [closeCursor_buffered p true s rest]
      rfl
    · intro _ resting
      simp [Cursor.rests, Cursor.opened] at resting

theorem failCursor_evolves (s : State) (p : Port) : Evolves s (failCursor s p) :=
  .ite (fun _ => .refl s) fun _ => (answerNext_evolves p .notReady s).trans (dropCursor_evolves p _ _ rfl rfl)

/-- A walk over the ports in which every stop evolves. -/
theorem foldl_evolves (f : State → Port → State) (each : ∀ s p, Evolves s (f s p)) (ports : List Port) (s : State) :
    Evolves s (ports.foldl f s) := by
  induction ports generalizing s with
  | nil => exact .refl s
  | cons p ps ih => exact (each s p).trans (ih _)

theorem failCursors_evolves (s : State) : Evolves s (failCursors s) := foldl_evolves _ failCursor_evolves _ s

theorem frontierMoved_evolves (s : State) : Evolves s (frontierMoved s) :=
  foldl_evolves _ (fun s p => (deriveCursor_evolves p s).trans (.ite (fun _ => fillCheck_evolves p _) fun _ => .refl _)) _ s

theorem chosen_evolves (s : State) : Evolves s s.chosen := .of_frame

theorem wakeStarved_evolves (s : State) : Evolves s (wakeStarved s) :=
  (chosen_evolves s).trans
    (foldl_evolves _ (fun s p => .ite (fun _ => fillCheck_evolves p s) fun _ => .refl s) _ _)

/-! The Volume Manager, the reports inside a step, the Host Port Units and every command keep what `Evolves` says; from this the
statements that say what every step keeps. -/

/-! ## From insertion to READY -/

theorem beginMount_evolves (s : State) : Evolves s (beginMount s) := .of_frame

theorem volumeGranted_evolves (s : State) : Evolves s (volumeGranted s) := by
  refine .ite (fun _ => ?_) fun _ => .refl s
  split
  · exact issue_evolves_of_owner _ _ s
  · exact issue_evolves_of_owner _ _ s
  all_goals exact .refl s

theorem rejectVolume_evolves (reason : RejectReason) (s : State) : Evolves s (rejectVolume reason s) :=
  ((setVom_evolves _ s).trans (release_evolves .volume _)).trans (postAll_evolves _ _ _)

theorem mountDone_evolves (capacity : Nat) (serial : BitVec 64) (medium : MediumKind) (s : State) :
    Evolves s (mountDone capacity serial medium s) := by
  have recorded := setVom_evolves { s.vom with serial := some serial, capacity := some capacity } s
  cases medium with
  | other => exact recorded.trans (rejectVolume_evolves _ _)
  | writeOnce =>
    exact .ite (fun _ => (recorded.trans (setVol_evolves .seekingEnd _)).trans (issue_evolves_of_owner _ _ _))
      fun _ => recorded.trans (rejectVolume_evolves _ _)

theorem mountEmpty_evolves (s : State) : Evolves s (mountEmpty s) := (setVom_evolves _ s).trans (release_evolves _ _)

/-- The values of a load touch nothing that is kept. -/
theorem handLoad_evolves (v : LoadValues) (s : State) : Evolves s (s.handLoad v) where
  ports := .of_eq rfl rfl
  buffers := .of_counts rfl rfl rfl rfl
  writes := id
  clock := .of_clock_eq rfl fun e mem => ⟨e, mem, rfl⟩

theorem startSession_evolves (v : LoadValues) (s : State) : Evolves s (startSession v s) :=
  ((((handLoad_evolves v s).trans (placeNew_evolves _ _)).trans (postAll_evolves _ _ _)).trans
    (setVom_evolves _ _)).trans ((recomputeR_evolves _).trans (release_evolves _ _))

theorem setScratch_evolves (x : Scratch) (s : State) : Evolves s { s with scratch := x } := .of_frame

theorem endSearched_evolves (e : Nat) (s : State) : Evolves s (endSearched e s) :=
  (setVom_evolves { s.vom with appendPoint := some e } s).trans (.ite (fun _ => startSession_evolves _ _)
    fun _ => (setScratch_evolves _ _).trans (issue_evolves_of_owner _ _ _))

theorem tailSeekDone_evolves (s : State) : Evolves s (tailSeekDone s) :=
  .ite (fun _ => issue_evolves_of_owner _ _ s) fun _ => .refl s

theorem decideLoad_evolves (s : State) : Evolves s (decideLoad s) := by
  unfold decideLoad
  split
  · exact rejectVolume_evolves _ s
  · exact .ite (fun _ => rejectVolume_evolves _ s) fun _ => .ite (fun _ => rejectVolume_evolves _ s)
      fun _ => startSession_evolves _ s

theorem tailRead_evolves (slot : Nat) (cls : SlotClass) (image : Option (List Byte)) (s : State) :
    Evolves s (tailRead slot cls image s) :=
  .ite (fun _ => .ite (fun _ => (setScratch_evolves _ s).trans (issue_evolves_of_owner _ _ _))
    fun _ => (setScratch_evolves _ s).trans (decideLoad_evolves _)) fun _ => .refl s

/-! ## The end of a volume -/

theorem clearSession_evolves (s : State) : Evolves s (clearSession s) where
  ports := .of_eq rfl rfl
  buffers := .of_counts rfl rfl rfl rfl
  writes := id
  clock := .of_clock_eq rfl fun e mem => ⟨e, mem, rfl⟩

theorem volumeLost_evolves (s : State) : Evolves s (volumeLost s) :=
  (failCursors_evolves s).trans (clearSession_evolves _)

theorem answerUnload_evolves (st : Status) (body : ReplyBody) (s : State) : Evolves s (answerUnload st body s) := by
  unfold answerUnload
  split
  · exact .ite (fun _ => reply_evolves _ _ _ _ s) fun _ => .refl s
  · exact .refl s

theorem finishEject_evolves (s : State) : Evolves s (finishEject s) := by
  have gone := ((setVol_evolves .none s).trans (volumeLost_evolves _)).trans (release_evolves .volume _)
  exact ((Evolves.ite (fun _ => gone.trans (answerUnload_evolves _ _ _)) fun _ =>
    gone.trans (answerUnload_evolves _ _ _)).trans (postAll_evolves _ _ _)).trans (setVom_evolves _ _)

theorem removeLoaded_evolves (s : State) : Evolves s (removeLoaded s) := by
  have lost := (((setVol_evolves .none s).trans (refuseQueue_evolves _)).trans (dropStaging_evolves _)).trans
    (volumeLost_evolves _)
  exact ((lost.trans (postAll_evolves _ _ _)).trans (answerUnload_evolves _ _ _)).trans (setVom_evolves _ _)

theorem volumeRemoved_evolves (s : State) : Evolves s (volumeRemoved s) := by
  unfold volumeRemoved
  split
  · exact .refl s
  · exact setVom_evolves _ s
  · exact (clearSession_evolves s).trans (setVom_evolves _ _)
  · exact finishEject_evolves s
  · exact removeLoaded_evolves s
  · exact removeLoaded_evolves s
  · exact removeLoaded_evolves s
  · exact .ite (fun _ => setVom_evolves _ s) fun _ => removeLoaded_evolves s

theorem driveFaulted_evolves (s : State) : Evolves s (driveFaulted s) := by
  have faulted := setVom_evolves { s.vom with state := .faulted, cause := some .drive } s
  have dropped := Evolves.ite (c := s.vom.counting = true)
    (fun _ => faulted.trans ((refuseQueue_evolves _).trans (dropStaging_evolves _))) fun _ => faulted
  have told := Evolves.ite (c := s.vom.counting = true)
    (fun _ => (dropped.trans (volumeLost_evolves _)).trans (postAll_evolves Port.all (.writeFailed .drive s.stagedRecords) _))
    fun _ => dropped.trans (volumeLost_evolves _)
  exact ((told.trans (postAll_evolves _ _ _)).trans (answerUnload_evolves _ _ _)).trans (setVom_evolves _ _)

theorem volumeDriveFault_evolves (s : State) : Evolves s (volumeDriveFault s) := by
  unfold volumeDriveFault
  split
  · exact .refl s
  · exact .ite (fun _ => .refl s) fun _ => driveFaulted_evolves s
  all_goals exact driveFaulted_evolves s

/-- The operation is abandoned; the buffer of a replay read becomes FREE (R71, R136). -/
theorem clearDrive_evolves (s : State) : Evolves s (clearDrive s) := by
  refine ⟨.of_eq (by simp) (by simp), fun rest => ⟨?_, fun p resting => ?_⟩, by simp [WritesBounded],
    .of_adu_eq (by simp)⟩
  · have freed : (freeAbandoned s).pool.free = s.pool.free + heldByLink s.mpt.link ∧
        (freeAbandoned s).staged = s.staged := by
      unfold freeAbandoned
      cases linked : s.mpt.link with
      | none => simp
      | some o =>
        cases held : o.holdsBuffer <;> simp [heldByLink_some, held, freeBuffers_free, freeBuffers_staged]
    have staged : (clearDrive s).staged = s.staged := freed.2
    have free : (clearDrive s).pool.free = s.pool.free + heldByLink s.mpt.link := freed.1
    have link : (clearDrive s).mpt.link = none := rfl
    simp only [State.bufferTotal_eq, staged, free, link, heldByLink_none, (clearDrive_keeps s)]
    omega
  · have cursor : (clearDrive s).cursor p = s.cursor p := by simp [State.cursor]
    rw [cursor] at resting ⊢
    obtain ⟨phase, none_, -⟩ := rest p resting
    exact ⟨phase, none_, fun _ linked => by cases linked⟩

theorem cartridgeRemoved_evolves (s : State) : Evolves s (cartridgeRemoved s) :=
  (clearDrive_evolves s).trans (volumeRemoved_evolves _)

theorem driveFaultEvent_evolves (s : State) : Evolves s (driveFaultEvent s) :=
  (clearDrive_evolves s).trans (volumeDriveFault_evolves _)

/-! ## UNLOAD -/

theorem beginDrain_evolves (s : State) : Evolves s (beginDrain s) :=
  (((setVol_evolves .draining s).trans (refuseQueue_evolves _)).trans (sealBlock_evolves .drain _)).trans
    ((raise_evolves .startCheck _).trans (raise_evolves .drainCheck _))

theorem unload_evolves (p : Port) (t : Tag) (s : State) : Evolves s (unload p t s) := by
  unfold unload
  split
  · exact reply_evolves _ _ _ _ s
  · have pending : Evolves s (State.setTagState { s with
        srt := s.srt.unlock p
        vom := { s.vom with unload := some { port := p, tag := t, faultFlag := false, owed := true } } } p t .pending) := by
      refine Evolves.trans ?_ (setTagState_evolves p t .pending _)
      exact .of_frame
    exact .ite (fun _ => pending.trans (beginDrain_evolves _)) fun _ => pending.trans (beginEject_evolves _)

/-! ## Reports inside a step -/

theorem wakeBoth_evolves (s : State) : Evolves s (wakeBoth s) :=
  .ite (fun _ => ((chosen_evolves s).trans (raise_evolves _ _)).trans (raise_evolves _ _))
    fun _ => ((chosen_evolves s).trans (raise_evolves _ _)).trans (raise_evolves _ _)

theorem releaseClaims_evolves (p : Port) (s : State) : Evolves s (releaseClaims p s) := .of_frame

theorem handle_evolves (g : Signal) (s : State) : Evolves s (handle g s) := by
  match g with
  | .head => exact evalHead_evolves s
  | .wake => exact wakeBoth_evolves s
  | .wakeAdmission => exact wakeHead_evolves s
  | .wakeReplay => exact wakeStarved_evolves s
  | .arrival => exact engineStart_evolves s
  | .startCheck => exact engineStart_evolves s
  | .yieldRaised => exact engineYield_evolves s
  | .yieldWithdrawn => exact engineSettle_evolves s
  | .granted .volume => exact volumeGranted_evolves s
  | .granted .engine => exact engineGranted_evolves s
  | .granted (.cursor p) => exact cursorGranted_evolves p s
  | .engineCheck => exact engineCheck_evolves s
  | .drainCheck => exact drainCheck_evolves s
  | .frontier => exact frontierMoved_evolves s
  | .fillCheck p => exact fillCheck_evolves p s
  | .releaseClaims p => exact releaseClaims_evolves p s

theorem setSignals_evolves (signals : List Signal) (s : State) : Evolves s { s with signals := signals } := .of_frame

theorem settleOne_evolves (g : Signal) (rest : List Signal) (s : State) : Evolves s (settleOne g rest s) :=
  ((setSignals_evolves [] s).trans (handle_evolves g _)).trans (setSignals_evolves _ _)

theorem settle_evolves (n : Nat) (s : State) : Evolves s (settle n s) := by
  induction n generalizing s with
  | zero => exact .refl s
  | succ n ih =>
    unfold settle
    split
    · exact .refl s
    · exact (settleOne_evolves _ _ s).trans (ih _)

theorem driveInhibit_evolves (s : State) : Evolves s (driveInhibit s) := .of_frame

/-- The reports of a step and the line keep what was kept before them. -/
theorem evolves_of_finish {s u t : State} (before : Evolves s u) (ended : finish u = .next t) : Evolves s t := by
  cases ended
  exact (before.trans (settle_evolves _ u)).trans (driveInhibit_evolves _)

/-! ## Host ports -/

theorem whenRunning_evolves (f : State → State) (s : State) (each : Evolves s (f s)) : Evolves s (whenRunning f s) :=
  .ite (fun _ => each) fun _ => .refl s

theorem hear_evolves (p : Port) (s : State) : Evolves s (hear p s) := by
  refine .of_ports (place_after_kept ?_ fun q ne => ⟨State.port_setPort_other s _ ne, rfl⟩)
  rw [State.port_setPort_same, State.notices_setPort]
  exact ⟨id, id, id⟩

theorem frameSent_evolves (p : Port) (s : State) : Evolves s (frameSent p s) := by
  refine .ite (fun _ => ?_) fun _ => .refl s
  refine .of_ports (place_after_kept ?_ fun q ne => ⟨State.port_setPort_other s _ ne, rfl⟩)
  rw [State.port_setPort_same, State.notices_setPort]
  refine ⟨id, fun full => ?_, id⟩
  simp only [List.length_tail]
  omega

theorem goodFrame_evolves (p : Port) (s : State) : Evolves s (goodFrame p s) :=
  .of_ports (setPort_kept ⟨⟨id, id, fun _ => Nat.zero_lt_succ 7⟩, id⟩)

/-- The port's own part of a reset (R169). -/
theorem cleared_evolves (p : Port) (s : State) : Evolves s (s.setPort p (s.port p).cleared) :=
  .of_ports (setPort_kept ⟨⟨id, fun _ => Nat.zero_le 12, fun _ => Nat.zero_lt_succ 7⟩, fun _ _ waits => absurd rfl waits⟩)

/-- A notice queue is emptied (R161). -/
theorem emptyNotices_evolves (p : Port) (s : State) :
    Evolves s (s.setNotices p { s.notices p with queue := [] }) := by
  refine .of_ports fun q => ?_
  rw [State.port_setNotices, State.notices_setNotices]
  split
  next => exact ⟨⟨fun _ => ⟨List.nodup_nil, List.nodup_nil⟩, id, id⟩, id⟩
  next => exact .refl _ _

theorem post_evolves (p : Port) (body : Notice) (s : State) : Evolves s (post p body s) := .of_ports (post_kept p body s)

theorem resetNotices_evolves (p : Port) (s : State) : Evolves s (resetNotices p s) :=
  ((emptyNotices_evolves p s).trans (post_evolves p _ _)).trans (postAll_evolves _ _ _)

theorem disownUnload_evolves (p : Port) (s : State) : Evolves s (disownUnload p s) := setVom_evolves _ s

theorem portReset_evolves (p : Port) (s : State) : Evolves s (portReset p s) := by
  unfold portReset
  dsimp only
  refine Evolves.trans (Evolves.trans ?_ (closeCursor_evolves p false _))
    ((disownUnload_evolves p _).trans (resetNotices_evolves p _))
  have purged := Evolves.trans (Evolves.ite
    (c := ((((s.setPort p (s.port p).cleared).adu.queue.head?.any fun e => e.port == p) &&
      (s.setPort p (s.port p).cleared).adu.queue.any fun e => e.port != p) = true))
    (fun _ => (cleared_evolves p s).trans (chosen_evolves _)) fun _ => cleared_evolves p s) (purgePort_evolves p _)
  exact .ite (fun _ => purged.trans (raise_evolves _ _)) fun _ => purged.trans (releaseClaims_evolves p _)

theorem badFrame_evolves (p : Port) (s : State) : Evolves s (badFrame p s) := by
  refine .ite (fun _ => portReset_evolves p s) fun few => ?_
  refine .of_ports (setPort_kept ⟨⟨id, id, fun _ => ?_⟩, id⟩)
  exact Nat.lt_of_not_le few

theorem linkLost_evolves (p : Port) (s : State) : Evolves s (linkLost p s) := by
  refine .ite (fun _ => Evolves.trans ?_ (portReset_evolves p _)) fun _ => .refl s
  exact .of_ports (setPort_kept ⟨⟨id, id, id⟩, fun _ up => by cases up⟩)

theorem frameLimit_evolves (p : Port) (s : State) : Evolves s (frameLimit p s) :=
  .ite (fun _ => (hear_evolves p s).trans (badFrame_evolves p _)) fun _ => .refl s

/-! ## Requests -/

theorem setClaims_evolves (c : Claims) (s : State) : Evolves s { s with srt := c } := .of_frame

theorem reserveStream_evolves (p : Port) (t : Tag) (x : StreamId) (s : State) : Evolves s (reserveStream p t x s) := by
  rw [reserveStream_eq]
  exact (setStream_evolves _ _ s).trans (replyWith_evolves _ _ _ _ _ _ _)

theorem reserveVolume_evolves (p : Port) (t : Tag) (s : State) : Evolves s (reserveVolume p t s) :=
  .ite (fun _ => reply_evolves _ _ _ _ s) fun _ => .ite (fun _ => reply_evolves _ _ _ _ s)
    fun _ => .ite (fun _ => reply_evolves _ _ _ _ s) fun _ => .ite (fun _ => replyWith_evolves _ _ _ _ _ _ s)
      fun _ => (setClaims_evolves _ s).trans (reply_evolves _ _ _ _ _)

theorem releaseStream_evolves (p : Port) (t : Tag) (x : StreamId) (s : State) : Evolves s (releaseStream p t x s) := by
  rw [releaseStream_eq]
  exact (setStream_evolves _ _ s).trans (replyWith_evolves _ _ _ _ _ _ _)

theorem releaseVolume_evolves (p : Port) (t : Tag) (s : State) : Evolves s (releaseVolume p t s) := by
  rw [releaseVolume_eq]
  exact (setClaims_evolves _ s).trans (replyWith_evolves _ _ _ _ _ _ _)

theorem lockRemoval_evolves (p : Port) (t : Tag) (s : State) : Evolves s (lockRemoval p t s) :=
  .ite (fun _ => (setClaims_evolves _ s).trans (reply_evolves _ _ _ _ _)) fun _ => reply_evolves _ _ _ _ s

theorem unlockRemoval_evolves (p : Port) (t : Tag) (s : State) : Evolves s (unlockRemoval p t s) :=
  (setClaims_evolves _ s).trans (reply_evolves _ _ _ _ _)

theorem setParams_evolves (q : Params) (s : State) : Evolves s { s with params := q } := .of_frame

theorem applyParams_evolves (pairs : List (Nat × Nat)) (s : State) : Evolves s (applyParams pairs s) := by
  have applied := setParams_evolves (s.params.apply pairs) s
  have leveled := Evolves.ite (c := s.params.ewReserve ≠ (s.params.apply pairs).ewReserve)
    (fun _ => applied.trans (evalLevel_evolves _)) fun _ => applied
  exact .ite (fun _ => leveled.trans (wakeStarved_evolves _)) fun _ => leveled

theorem setParameters_evolves (p : Port) (t : Tag) (pairs : List (Nat × Nat)) (s : State) :
    Evolves s (setParameters p t pairs s) :=
  .ite (fun _ => reply_evolves _ _ _ _ s) fun _ => .ite (fun _ => reply_evolves _ _ _ _ s)
    fun _ => (applyParams_evolves pairs s).trans (reply_evolves _ _ _ _ _)

theorem ackNotice_evolves (p : Port) (t : Tag) (k : BitVec 16) (s : State) : Evolves s (ackNotice p t k s) := by
  unfold ackNotice
  dsimp only
  split
  next => exact reply_evolves _ _ _ _ s
  next i _ =>
    refine Evolves.trans ?_ (reply_evolves _ _ _ _ _)
    refine .of_ports (place_after_kept ?_ fun q ne => ?_)
    · rw [State.notices_setNotices_same, State.port_setNotices, State.port_setPort_same]
      refine ⟨fun ⟨codes, numbers⟩ => ?_, (length_withdraw _ _).trans, id⟩
      have sub := List.drop_sublist (i + 1) (s.notices p).queue
      exact ⟨codes.sublist (sub.map _), numbers.sublist (sub.map _)⟩
    · rw [State.port_setNotices, State.port_setPort_other s _ ne, State.notices_setNotices, if_neg ne]
      exact ⟨rfl, rfl⟩

/-- A writing request joins the queue; a value to be set has six bytes, so it is bounded (R16, R30). -/
theorem joinQueue_evolves (p : Port) (t : Tag) (w : Writing) (s : State)
    (bounded : ∀ v, w = .setClock v → v ≤ Config.clockMax) : Evolves s (joinQueue p t w s) := by
  have joined : ∀ deadline, Evolves s ((s.setTagState p t .queued).setQueue
      (s.adu.queue ++ [{ port := p, tag := t, request := w, deadline := deadline, held := false }])) := by
    intro deadline
    refine ⟨setTagState_kept p t .queued s, .of_counts rfl rfl rfl rfl, id, ?_⟩
    rintro ⟨now, waiting⟩
    refine ⟨⟨now, fun e mem v request => ?_⟩, fun c set_ => ⟨c, set_, Nat.le_refl c⟩⟩
    rcases List.mem_append.mp mem with mem | mem
    · exact waiting e mem v request
    · cases List.mem_singleton.mp mem
      exact bounded v request
  exact .ite (fun _ => (joined _).trans (raise_evolves _ _)) fun _ => joined _

/-- The value that a payload of SET_CLOCK carries is below 2^48. -/
theorem beNat_lt (b : List Byte) : beNat b < 256 ^ b.length := by
  induction b using List.reverseRecOn with
  | nil => decide
  | append_singleton b x ih =>
    have := x.isLt
    rw [beNat_append_one, List.length_append, List.length_singleton, Nat.pow_succ]
    omega

/-- A request that the checks let pass carries a bounded clock value. -/
theorem clock_of_parseRequest {kind : Nat} {b : List Byte} {v : Nat}
    (parsed : parseRequest kind b = some (.writing (.setClock v))) : v ≤ Config.clockMax := by
  unfold parseRequest at parsed
  split at parsed
  case h_3 =>
    unfold parseSetClock at parsed
    split at parsed
    next six =>
      cases parsed
      have := beNat_lt b
      rw [six] at this
      exact Nat.le_of_lt_succ this
    next => cases parsed
  case h_6 | h_7 =>
    unfold parseTarget at parsed
    split_ifs at parsed <;> simp at parsed
  all_goals simp [parseAppend, parseStream, noFields, parseReplayOpen, parseSetParameters, parseAck] at parsed

theorem serve_evolves (p : Port) (t : Tag) (r : Request) (s : State)
    (bounded : ∀ v, r = .writing (.setClock v) → v ≤ Config.clockMax) : Evolves s (serve p t r s) := by
  match r with
  | .writing w => exact joinQueue_evolves p t w s fun v request => bounded v (congrArg _ request)
  | .reserve (.stream x) => exact reserveStream_evolves p t x s
  | .reserve .volume => exact reserveVolume_evolves p t s
  | .release (.stream x) => exact releaseStream_evolves p t x s
  | .release .volume => exact releaseVolume_evolves p t s
  | .lockRemoval => exact lockRemoval_evolves p t s
  | .unlockRemoval => exact unlockRemoval_evolves p t s
  | .unload => exact unload_evolves p t s
  | .replayOpen st f => exact replayOpen_evolves p t st f s
  | .replayNext => exact replayNext_evolves p t s
  | .replayClose => exact replayClose_evolves p t s
  | .setParameters pairs => exact setParameters_evolves p t pairs s
  | .getParameters => exact reply_evolves _ _ _ _ s
  | .getStatus => exact reply_evolves _ _ _ _ s
  | .ackNotice k => exact ackNotice_evolves p t k s

theorem dispatch_evolves (p : Port) (t : Tag) (kind : Byte) (payload : List Byte) (s : State) :
    Evolves s (dispatch p t kind payload s) := by
  unfold dispatch
  refine (setSlot_evolves p t (TagSlot.dispatch kind payload) s).trans ?_
  split
  next => exact reply_evolves _ _ _ _ _
  next r parsed =>
    exact .ite (fun _ => reply_evolves _ _ _ _ _)
      fun _ => serve_evolves p t r _ fun v request => clock_of_parseRequest (request ▸ parsed)

theorem takeRequest_evolves (p : Port) (t : Tag) (kind : Byte) (payload : List Byte) (s : State) :
    Evolves s (takeRequest p t kind payload s) := by
  refine whenRunning_evolves _ s ((hear_evolves p s).trans ?_)
  exact .ite (fun _ => badFrame_evolves p _) fun _ => (goodFrame_evolves p _).trans (dispatch_evolves _ _ _ _ _)

theorem takeAbort_evolves (p : Port) (t : Tag) (s : State) : Evolves s (takeAbort p t s) := by
  unfold takeAbort
  split
  · exact refuseEntry_evolves _ _ _ s
  · exact abortWaiter_evolves _ _ s
  · exact .ite (fun _ => abortNext_evolves p t s) fun _ => .refl s
  all_goals exact .refl s

/-! Start-up, the drive's completions and reports and the timers keep what `Evolves` says; so does every command but the part
reset, and from this the statements about every step follow. -/

/-! ## The start-up test -/

theorem setTest_evolves (st : TestState) (lines : BitVec 4) (s : State) : Evolves s (s.setTest st lines) := .of_frame

theorem haltTest_evolves (s : State) : Evolves s (haltTest s) := .of_frame

theorem checkMount_evolves (s : State) : Evolves s (checkMount s) := issue_evolves_of_owner _ _ s

theorem noteCartridge_evolves (s : State) : Evolves s (noteCartridge s) := .of_frame

theorem enableLinks_evolves (s : State) : Evolves s (enableLinks s) := foldl_evolves _ (fun s p => hear_evolves p s) _ s

theorem startUpPass_evolves (present : Bool) (s : State) : Evolves s (startUpPass present s) := by
  have noted := Evolves.ite (c := present = true) (fun _ => noteCartridge_evolves s) fun _ => .refl s
  have running := noted.trans (setTest_evolves .running 0 _)
  have mounting := Evolves.ite (c := ((if present = true then noteCartridge s else s).setTest .running 0).ctl.cartridgeNoted = true)
    (fun _ => running.trans (beginMount_evolves _)) fun _ => running
  exact (mounting.trans (postAll_evolves Port.all (.resetOccurred .part) _)).trans (enableLinks_evolves _)

theorem releaseReset_evolves (s : State) : Evolves s (releaseReset s) :=
  .ite (fun _ => .of_frame rfl rfl rfl rfl rfl rfl rfl rfl) fun _ => .refl s

theorem endPhase1_evolves (pass : Bool) (s : State) : Evolves s (endPhase1 pass s) :=
  .ite (fun _ => .ite (fun _ => setTest_evolves _ _ s) fun _ => haltTest_evolves s) fun _ => .refl s

theorem endPhase2_evolves (pass : Bool) (s : State) : Evolves s (endPhase2 pass s) :=
  .ite (fun _ => .ite (fun _ => (setTest_evolves _ _ s).trans (checkMount_evolves _)) fun _ => haltTest_evolves s)
    fun _ => .refl s

/-! ## Completions -/

theorem State.accepted_iff (s : State) (number : Byte) (kind : DriveOp → Bool) (o : Outstanding) :
    s.accepted number kind = some o ↔ s.mpt.link = some o ∧ o.number = number ∧ kind o.op = true := by
  simp [State.accepted, Option.filter_eq_some_iff]

/-- A completion is without effect, or its operation ends, its client acts, and the link is handed over. -/
theorem completion_evolves (number : Byte) (kind : DriveOp → Bool) (head : Outstanding → Option Nat)
    (act : Outstanding → State → State) (s : State)
    (acts : ∀ o, s.mpt.link = some o → kind o.op = true → Evolves s (act o (endOperation (head o) s))) :
    Evolves s (completion number kind head act s) := by
  unfold completion
  split
  next => exact .refl s
  next o accepted =>
    obtain ⟨linked, -, ofKind⟩ := (s.accepted_iff number kind o).mp accepted
    exact (acts o linked ofKind).trans (handOver_evolves _)

/-- Only a read has a destination buffer (R39). -/
theorem holdsBuffer_of_not_read {o : Outstanding} (other : o.op.isRead = false) : o.holdsBuffer = false := by
  obtain ⟨op, number, issuer⟩ := o
  cases op with
  | read n => cases other
  | mount | findEnd | seek _ | write _ _ | eject => rfl

/-- The completion of an operation that is no read. -/
theorem completion_evolves_of_not_read (number : Byte) (kind : DriveOp → Bool) (head : Outstanding → Option Nat)
    (act : Outstanding → State → State) (s : State) (acts : ∀ o s, Evolves s (act o s))
    (other : ∀ op, kind op = true → op.isRead = false) : Evolves s (completion number kind head act s) := by
  refine completion_evolves number kind head act s fun o linked ofKind => (endOperation_evolves _ s ?_).trans (acts o _)
  intro o' linked'
  rw [linked] at linked'
  cases linked'
  exact holdsBuffer_of_not_read (other _ ofKind)

theorem DriveOp.not_read_of_isMount (op : DriveOp) : op.isMount = true → op.isRead = false := by
  cases op <;> simp [DriveOp.isMount, DriveOp.isRead]

theorem DriveOp.not_read_of_isFindEnd (op : DriveOp) : op.isFindEnd = true → op.isRead = false := by
  cases op <;> simp [DriveOp.isFindEnd, DriveOp.isRead]

theorem DriveOp.not_read_of_isSeek (op : DriveOp) : op.isSeek = true → op.isRead = false := by
  cases op <;> simp [DriveOp.isSeek, DriveOp.isRead]

theorem DriveOp.not_read_of_isWrite (op : DriveOp) : op.isWrite = true → op.isRead = false := by
  cases op <;> simp [DriveOp.isWrite, DriveOp.isRead]

theorem DriveOp.not_read_of_isEject (op : DriveOp) : op.isEject = true → op.isRead = false := by
  cases op <;> simp [DriveOp.isEject, DriveOp.isRead]

theorem mountAnswer_evolves (present : Bool) (act : State → State) (acts : ∀ s, Evolves s (act s)) (o : Outstanding)
    (s : State) : Evolves s (mountAnswer present act o s) := by
  unfold mountAnswer
  split
  · exact startUpPass_evolves present s
  · exact acts s
  all_goals exact .refl s

theorem seekAnswer_evolves (o : Outstanding) (s : State) : Evolves s (seekAnswer o s) := by
  unfold seekAnswer
  split
  · exact tailSeekDone_evolves s
  · exact engineSeekDone_evolves s
  · exact fillStep_evolves _ s
  all_goals exact .refl s

/-- The end of a read: only a replay read has a destination buffer, which its cursor keeps or gives back (R65, R136). -/
theorem readAnswer_evolves (cls : SlotClass) (image : Option (List Byte)) (head : Option Nat) (o : Outstanding) (s : State)
    (linked : s.mpt.link = some o) (read : o.op.isRead = true) :
    Evolves s (readAnswer cls image o (endOperation head s)) := by
  have ended (free : o.holdsBuffer = false) : Evolves s (endOperation head s) :=
    endOperation_evolves head s fun o' linked' => by
      rw [linked] at linked'
      cases linked'
      exact free
  obtain ⟨op, number, issuer⟩ := o
  cases op with
  | read n =>
    cases issuer with
    | control => exact ended rfl
    | engine => exact ended rfl
    | volume => exact (ended rfl).trans (tailRead_evolves _ _ _ _)
    | cursor p => exact cursorRead_evolves p n cls _ head s _ linked rfl rfl
    | closedCursor p => exact closedReadEnded_evolves head s _ linked rfl
  | mount | findEnd | seek _ | write _ _ | eject => cases read

theorem escalate_evolves (number : Byte) (kind : DriveOp → Bool) (s : State)
    (other : ∀ op, kind op = true → op.isRead = false) : Evolves s (escalate number kind s) :=
  completion_evolves_of_not_read number kind _ _ s (fun _ s => driveFaultEvent_evolves s) other

theorem readCompletion_evolves (number : Byte) (head : Outstanding → Option Nat) (cls : SlotClass)
    (image : Option (List Byte)) (s : State) :
    Evolves s (completion number DriveOp.isRead head (readAnswer cls image) s) :=
  completion_evolves number _ _ _ s fun o linked read => readAnswer_evolves cls image _ o s linked read

/-! ## Reports and timers -/

theorem byMode_evolves (running phase3 : State → State) (s : State) (runs : Evolves s (running s))
    (tests : Evolves s (phase3 s)) : Evolves s (byMode running phase3 s) := by
  unfold byMode
  split
  · exact runs
  · exact tests
  all_goals exact .refl s

theorem cartridgeInserted_evolves (s : State) : Evolves s (cartridgeInserted s) :=
  .ite (fun _ => beginMount_evolves s) fun _ => .refl s

theorem retryOperation_evolves (o : Outstanding) (s : State) (linked : s.mpt.link = some o) :
    Evolves s (retryOperation o s) := by
  refine ⟨.of_eq rfl rfl, fun rest => ⟨?_, fun p resting => ?_⟩, id, .of_adu_eq rfl⟩
  · have held : heldByLink (retryOperation o s).mpt.link = heldByLink s.mpt.link := by
      rw [linked]
      rfl
    rw [State.bufferTotal_eq, State.bufferTotal_eq, held]
    rfl
  · obtain ⟨phase, none_, other⟩ := rest p resting
    refine ⟨phase, none_, fun o' linked' => ?_⟩
    cases linked'
    exact other o linked

theorem operationExpired_evolves (s : State) : Evolves s (operationExpired s) := by
  unfold operationExpired
  split
  next o _ linked =>
    have ended (free : o.holdsBuffer = false) : Evolves s (endOperation none s) :=
      endOperation_evolves none s fun o' linked' => by
        rw [linked] at linked'
        cases linked'
        exact free
    split
    next op =>
      exact ((ended (holdsBuffer_of_not_read (by simp [op, DriveOp.isRead]))).trans (writeEnded_evolves _ _)).trans
        (handOver_evolves _)
    all_goals
      refine .ite (fun control => (ended ?_).trans (haltTest_evolves _)) fun _ =>
        .ite (fun _ => driveFaultEvent_evolves s) fun _ => retryOperation_evolves o s linked
      simp [Outstanding.holdsBuffer, control]
  next => exact .refl s

/-! Every command but the part reset keeps what `Evolves` says; the part reset takes the values at which the laws hold. -/

theorem whenRunning_hear_evolves (p : Port) (f : State → State) (s : State) (each : ∀ s, Evolves s (f s)) :
    Evolves s (whenRunning (fun s => f (hear p s)) s) :=
  whenRunning_evolves _ s ((hear_evolves p s).trans (each _))

/-- Every command but the part reset, over all states (R39, R154, R156, R164, R171, R30). -/
theorem exec_evolves (c : Instr) (s t : State) (other : c ≠ .resetNAsserted) (ended : exec c s = .next t) : Evolves s t := by
  cases c with
  | append p t payload => exact evolves_of_finish (takeRequest_evolves p t 1 payload s) ended
  | sync p t payload => exact evolves_of_finish (takeRequest_evolves p t 2 payload s) ended
  | setClock p t payload => exact evolves_of_finish (takeRequest_evolves p t 3 payload s) ended
  | openStream p t payload => exact evolves_of_finish (takeRequest_evolves p t 4 payload s) ended
  | closeStream p t payload => exact evolves_of_finish (takeRequest_evolves p t 5 payload s) ended
  | reserveStream p t payload => exact evolves_of_finish (takeRequest_evolves p t 6 payload s) ended
  | reserveVolume p t => exact evolves_of_finish (takeRequest_evolves p t 6 [255] s) ended
  | releaseStream p t payload => exact evolves_of_finish (takeRequest_evolves p t 7 payload s) ended
  | releaseVolume p t => exact evolves_of_finish (takeRequest_evolves p t 7 [255] s) ended
  | lockRemoval p t payload => exact evolves_of_finish (takeRequest_evolves p t 8 payload s) ended
  | unlockRemoval p t payload => exact evolves_of_finish (takeRequest_evolves p t 9 payload s) ended
  | unload p t payload => exact evolves_of_finish (takeRequest_evolves p t 10 payload s) ended
  | replayOpen p t payload => exact evolves_of_finish (takeRequest_evolves p t 11 payload s) ended
  | replayNext p t payload => exact evolves_of_finish (takeRequest_evolves p t 12 payload s) ended
  | replayClose p t payload => exact evolves_of_finish (takeRequest_evolves p t 13 payload s) ended
  | setParameters p t payload => exact evolves_of_finish (takeRequest_evolves p t 14 payload s) ended
  | getParameters p t payload => exact evolves_of_finish (takeRequest_evolves p t 15 payload s) ended
  | getStatus p t payload => exact evolves_of_finish (takeRequest_evolves p t 16 payload s) ended
  | ackNotice p t payload => exact evolves_of_finish (takeRequest_evolves p t 17 payload s) ended
  | unknownRequestKind p t kind payload => exact evolves_of_finish (takeRequest_evolves p t kind payload s) ended
  | abort p t =>
    exact evolves_of_finish (whenRunning_hear_evolves p (fun s => takeAbort p t (goodFrame p s)) s fun s =>
      (goodFrame_evolves p s).trans (takeAbort_evolves p t _)) ended
  | portReset p =>
    exact evolves_of_finish (whenRunning_hear_evolves p (fun s => portReset p (goodFrame p s)) s fun s =>
      (goodFrame_evolves p s).trans (portReset_evolves p _)) ended
  | frameError p => exact evolves_of_finish (whenRunning_hear_evolves p _ s (badFrame_evolves p)) ended
  | frameErrorLimit p => exact evolves_of_finish (whenRunning_evolves _ s (frameLimit_evolves p s)) ended
  | characterReceived p => exact evolves_of_finish (whenRunning_evolves _ s (hear_evolves p s)) ended
  | activityTimerExpiry p => exact evolves_of_finish (whenRunning_evolves _ s (linkLost_evolves p s)) ended
  | frameTransmitted p => exact evolves_of_finish (whenRunning_evolves _ s (frameSent_evolves p s)) ended
  | mounted op capacity serial medium =>
    exact evolves_of_finish (completion_evolves_of_not_read op _ _ _ s
      (mountAnswer_evolves _ _ (mountDone_evolves capacity.toNat serial medium)) DriveOp.not_read_of_isMount) ended
  | noMedium op =>
    exact evolves_of_finish (completion_evolves_of_not_read op _ _ _ s
      (mountAnswer_evolves _ _ mountEmpty_evolves) DriveOp.not_read_of_isMount) ended
  | mountError op =>
    exact evolves_of_finish (completion_evolves_of_not_read op _ _ _ s
      (mountAnswer_evolves _ _ (rejectVolume_evolves .mountError)) DriveOp.not_read_of_isMount) ended
  | endFound op e =>
    change execEndFound op e s = .next t at ended
    unfold execEndFound at ended
    split at ended
    · exact evolves_of_finish (completion_evolves_of_not_read op _ _ _ s
        (fun _ => endSearched_evolves e.toNat) DriveOp.not_read_of_isFindEnd) ended
    · exact evolves_of_finish (escalate_evolves op _ s DriveOp.not_read_of_isFindEnd) ended
  | endError op => exact evolves_of_finish (escalate_evolves op _ s DriveOp.not_read_of_isFindEnd) ended
  | seekDone op =>
    exact evolves_of_finish (completion_evolves_of_not_read op _ _ _ s seekAnswer_evolves DriveOp.not_read_of_isSeek) ended
  | seekError op => exact evolves_of_finish (escalate_evolves op _ s DriveOp.not_read_of_isSeek) ended
  | written op =>
    exact evolves_of_finish (completion_evolves_of_not_read op _ _ _ s
      (fun _ => writeEnded_evolves true) DriveOp.not_read_of_isWrite) ended
  | writeError op =>
    exact evolves_of_finish (completion_evolves_of_not_read op _ _ _ s
      (fun _ => writeEnded_evolves false) DriveOp.not_read_of_isWrite) ended
  | readDone op bytes => exact evolves_of_finish (readCompletion_evolves op _ (classify bytes) (some bytes) s) ended
  | blank op => exact evolves_of_finish (readCompletion_evolves op _ .blank none s) ended
  | readError op => exact evolves_of_finish (readCompletion_evolves op _ .bad none s) ended
  | ejected op =>
    exact evolves_of_finish (completion_evolves_of_not_read op _ _ _ s
      (fun _ => finishEject_evolves) DriveOp.not_read_of_isEject) ended
  | ejectError op => exact evolves_of_finish (escalate_evolves op _ s DriveOp.not_read_of_isEject) ended
  | verifyResult slot pass =>
    exact evolves_of_finish (byMode_evolves _ _ s (verifyReport_evolves slot.toNat pass s) (.refl s)) ended
  | cartridgeInserted =>
    exact evolves_of_finish (byMode_evolves _ _ s (cartridgeInserted_evolves s) (noteCartridge_evolves s)) ended
  | cartridgeRemoved =>
    exact evolves_of_finish (byMode_evolves _ _ s (cartridgeRemoved_evolves s)
      ((clearDrive_evolves s).trans (checkMount_evolves _))) ended
  | driveFault =>
    exact evolves_of_finish (byMode_evolves _ _ s (driveFaultEvent_evolves s)
      ((clearDrive_evolves s).trans (haltTest_evolves _))) ended
  | driveMessageCorrupt => exact evolves_of_finish (.refl s) ended
  | operationTimerExpiry => exact evolves_of_finish (operationExpired_evolves s) ended
  | sealTimerExpiry => exact evolves_of_finish (sealExpired_evolves s) ended
  | startAgeExpiry bsn => exact evolves_of_finish (startAgeExpired_evolves bsn s) ended
  | deadlineExpiry p t => exact evolves_of_finish (deadlineExpired_evolves p t s) ended
  | verifyTimerExpiry slot => exact evolves_of_finish (verifyExpired_evolves slot s) ended
  | resetNAsserted => exact absurd rfl other
  | resetNReleased => exact evolves_of_finish (releaseReset_evolves s) ended
  | bufferMemoryTestEnd pass => exact evolves_of_finish (endPhase1_evolves pass s) ended
  | tableMemoryTestEnd pass => exact evolves_of_finish (endPhase2_evolves pass s) ended
  | journalClockTick => exact evolves_of_finish (tickClock_evolves s) ended

/-! ## The part reset -/

/-- The state that a part reset leaves: the reset state with the model's own queue and counter (R178). -/
theorem exec_resetNAsserted (s : State) : exec .resetNAsserted s = .next (partReset s) := finish_quiet (partReset s) rfl

@[simp] theorem port_partReset (s : State) (p : Port) : (partReset s).port p = HostPort.reset := by
  simp [partReset, State.port, State.reset]

@[simp] theorem notices_partReset (s : State) (p : Port) : (partReset s).notices p = NoticeUnit.reset := by
  simp [partReset, State.notices, State.reset]

@[simp] theorem cursor_partReset (s : State) (p : Port) : (partReset s).cursor p = Cursor.reset := by
  simp [partReset, State.cursor, State.reset]

/-- The laws that every step keeps, in any state. -/
structure LawsHold (s : State) : Prop where
  buffers : BuffersKept s
  writes : WritesBounded s
  transmit : TransmitBounded s
  errors : ErrorsBelow s
  placed : PlacedAtOnce s
  notices : NoticesDistinct s
  params : s.params.inRange
  clock : ClockBounded s

theorem lawsHold_partReset (s : State) : LawsHold (partReset s) where
  buffers := ⟨rfl, fun p _ => by simp [Cursor.reset]; exact fun o linked => by cases linked⟩
  writes := Nat.zero_le 3
  transmit p := by simp [HostPort.reset]
  errors p := by simp [HostPort.reset]
  placed p up := by simp [HostPort.reset] at up
  notices p := by simp [NoticeUnit.reset]
  params := by simp [Params.inRange, partReset, State.reset, Params.default]
  clock := by simp [ClockBounded, partReset, State.reset]

/-! ## A step -/

/-- A step idles, resets the part, or keeps what every other command keeps. -/
theorem step_cases {s t : State} (stepped : step s = .next t) :
    Evolves s t ∨ s.pending.head? = some .resetNAsserted ∧
      ∃ u, t = partReset u := by
  unfold step at stepped
  split at stepped
  next => cases stepped; exact .inl (.refl s)
  next c rest queue =>
    by_cases reset : c = .resetNAsserted
    · subst reset
      rw [exec_resetNAsserted] at stepped
      cases stepped
      exact .inr ⟨by simp [queue], _, rfl⟩
    · refine .inl (Evolves.trans ?_ (exec_evolves c _ t reset stepped))
      exact .of_frame rfl rfl rfl rfl rfl rfl rfl rfl

/-- A law that `Evolves` keeps and that holds with the reset values is kept by every step. -/
theorem step_keeps {Law : State → Prop} {s t : State} (stepped : step s = .next t) (kept : Evolves s t → Law t)
    (reset : ∀ u, LawsHold u → Law u) : Law t := by
  obtain evolves | ⟨-, u, rfl⟩ := step_cases stepped
  · exact kept evolves
  · exact reset _ (lawsHold_partReset u)

/-! ## What every step keeps -/

/-- Settles O20: a notice joins a queue after the entry of its kind has left it, under a number that the queue does not hold. -/
theorem noticesDistinctKept : Obligations.NoticesDistinctKept := by
  intro s t law stepped
  exact step_keeps stepped (fun evolves p => (evolves.ports p).distinct (law p)) fun _ laws => laws.notices

/-- Settles O34: only SET_CLOCK and the tick write the clock, and the head's test refuses a value below it. -/
theorem clockNeverBack : Obligations.ClockNeverBack := by
  intro s t law stepped
  refine ⟨step_keeps stepped (fun evolves => (evolves.clock law).1) fun _ laws => laws.clock, fun other c set_ => ?_⟩
  obtain evolves | ⟨reset, -⟩ := step_cases stepped
  · exact (evolves.clock law).2 c set_
  · exact absurd reset other

/-- Settles O41: each operation moves a buffer from one state of Table 3-1 to another. -/
theorem buffersDividedKept : Obligations.BuffersDividedKept := by
  intro s t stepped
  refine ⟨fun ⟨total, rest⟩ => step_keeps stepped (fun evolves => ?_) fun _ laws => laws.buffers,
    fun law => step_keeps stepped (fun evolves => evolves.writes law) fun _ laws => laws.writes⟩
  obtain ⟨same, resting⟩ := evolves.buffers rest
  exact ⟨same.trans total, resting⟩

/-- Settles O18: what waits at a port is placed as soon as its link is up and its transmit queue has room, up to 12 frames. -/
theorem portBoundsKept : Obligations.PortBoundsKept := by
  intro s t stepped
  refine ⟨fun ⟨transmit, errors⟩ => ?_, fun law => ?_⟩
  · exact step_keeps (Law := fun u => TransmitBounded u ∧ ErrorsBelow u) stepped
      (fun evolves => ⟨fun p => (evolves.ports p).transmit (transmit p), fun p => (evolves.ports p).errors (errors p)⟩)
      fun _ laws => ⟨laws.transmit, laws.errors⟩
  · exact step_keeps stepped (fun evolves p => (evolves.ports p).settled (law p)) fun _ laws => laws.placed

/-- Settles O58, by the reset values. -/
theorem lawsAtReset : Obligations.LawsAtReset := by
  have laws := lawsHold_partReset State.reset
  exact ⟨laws.buffers, laws.writes, laws.transmit, laws.errors, laws.placed, laws.notices, laws.params, laws.clock,
    by simp [LineLawful, State.reset, VolumeRecord.unset]⟩

/-- Settles O1. -/
theorem stepTakesFront : Obligations.StepTakesFront := by
  intro c rest s queue
  simp [step, queue]

/-! The parameter set: SET_PARAMETERS applies pairs within the ranges of Table 11-1, and no other command but the part reset
writes it (R173, R174). -/

/-! ## The range checks -/

theorem Params.set_inRange {q : Params} {id value : Nat} (within : q.inRange) (checked : paramInRange id value = true) :
    (q.set id value).inRange := by
  obtain ⟨sealDelay, startCount, startAge, holdLimit, ewReserve, readahead, replayLimit, stagingFloor, burstMax⟩ := within
  unfold paramInRange at checked
  split at checked
  case h_10 => cases checked
  all_goals
    simp only [decide_eq_true_eq] at checked
    exact ⟨by assumption, by assumption, by assumption, by assumption, by assumption, by assumption, by assumption,
      by assumption, by assumption⟩

theorem Params.apply_inRange {q : Params} {pairs : List (Nat × Nat)} (within : q.inRange) (good : pairsGood pairs = true) :
    (q.apply pairs).inRange := by
  have checked : ∀ x ∈ pairs, paramInRange x.1 x.2 = true :=
    fun x mem => (paramInRange_iff x.1 x.2).mpr (((pairsGood_iff pairs).mp good).1 x mem)
  clear good
  induction pairs generalizing q with
  | nil => exact within
  | cons x pairs ih =>
    exact ih (Params.set_inRange within (checked x List.mem_cons_self)) fun y mem => checked y (List.mem_cons_of_mem x mem)

/-! ## What a request does to the parameters -/

/-- The parameters stand, or a list of pairs that passes the check has been applied. -/
def ParamsApplied (s t : State) : Prop :=
  t.params = s.params ∨ ∃ pairs, pairsGood pairs = true ∧ t.params = s.params.apply pairs

theorem applyParams_params (pairs : List (Nat × Nat)) (s : State) : (applyParams pairs s).params = s.params.apply pairs := by
  unfold applyParams
  dsimp only
  split_ifs <;> simp

theorem setParameters_params (p : Port) (t : Tag) (pairs : List (Nat × Nat)) (s : State) :
    ParamsApplied s (setParameters p t pairs s) := by
  unfold setParameters
  split
  next => exact .inl (by simp)
  next good =>
    split
    next => exact .inl (by simp)
    next => exact .inr ⟨pairs, Bool.eq_true_of_not_eq_false good, by simp [applyParams_params]⟩

theorem serve_params (p : Port) (t : Tag) (r : Request) (s : State) (other : ∀ pairs, r ≠ .setParameters pairs) :
    (serve p t r s).params = s.params := by
  match r with
  | .writing _ | .reserve (.stream _) | .reserve .volume | .release (.stream _) | .release .volume | .lockRemoval
  | .unlockRemoval | .unload | .replayOpen _ _ | .replayNext | .replayClose | .getParameters | .getStatus | .ackNotice _ =>
    simp [serve]
  | .setParameters pairs => exact absurd rfl (other pairs)

/-- Only the kind of SET_PARAMETERS carries pairs (R181). -/
theorem kind_of_setParameters {kind : Nat} {b : List Byte} {pairs : List (Nat × Nat)}
    (parsed : parseRequest kind b = some (.setParameters pairs)) : kind = 14 := by
  unfold parseRequest at parsed
  split at parsed
  case h_14 => rfl
  case h_6 | h_7 =>
    unfold parseTarget at parsed
    split_ifs at parsed <;> simp at parsed
  all_goals simp [parseAppend, parseStream, noFields, parseReplayOpen, parseSetClock, parseAck] at parsed

theorem dispatch_params (p : Port) (t : Tag) (kind : Byte) (b : List Byte) (s : State) :
    ParamsApplied s (dispatch p t kind b s) ∧ (kind.toNat ≠ 14 → (dispatch p t kind b s).params = s.params) := by
  unfold dispatch
  dsimp only
  split
  next => exact ⟨.inl (by simp), fun _ => by simp⟩
  next r parsed =>
    split
    next => exact ⟨.inl (by simp), fun _ => by simp⟩
    next =>
      by_cases pairs : ∃ pairs, r = .setParameters pairs
      · obtain ⟨pairs, rfl⟩ := pairs
        exact ⟨by simpa [serve, ParamsApplied] using setParameters_params p t pairs (s.setSlot p t _),
          fun other => absurd (kind_of_setParameters parsed) other⟩
      · have kept : (serve p t r (s.setSlot p t (TagSlot.dispatch kind b))).params = s.params := by
          rw [serve_params p t r _ fun l own => pairs ⟨l, own⟩]
          simp
        exact ⟨.inl kept, fun _ => kept⟩

theorem takeRequest_params (p : Port) (t : Tag) (kind : Byte) (b : List Byte) (s : State) :
    ParamsApplied s (takeRequest p t kind b s) ∧ (kind.toNat ≠ 14 → (takeRequest p t kind b s).params = s.params) := by
  unfold takeRequest whenRunning
  split
  next =>
    dsimp only
    split
    next => exact ⟨.inl (by simp), fun _ => by simp⟩
    next => simpa [ParamsApplied] using dispatch_params p t kind b (goodFrame p (hear p s))
  next => exact ⟨.inl rfl, fun _ => rfl⟩

/-! ## What the other commands do -/

theorem whenRunning_params (f : State → State) (s : State) (each : (f s).params = s.params) :
    (whenRunning f s).params = s.params := by
  unfold whenRunning
  split
  · exact each
  · rfl

theorem completion_params (number : Byte) (kind : DriveOp → Bool) (head : Outstanding → Option Nat)
    (act : Outstanding → State → State) (s : State) (acts : ∀ o s, (act o s).params = s.params) :
    (completion number kind head act s).params = s.params := by
  unfold completion
  split <;> simp [acts]

theorem mountAnswer_params (present : Bool) (act : State → State) (acts : ∀ s, (act s).params = s.params) (o : Outstanding)
    (s : State) : (mountAnswer present act o s).params = s.params := by
  unfold mountAnswer
  split <;> simp [acts]

theorem seekAnswer_params (o : Outstanding) (s : State) : (seekAnswer o s).params = s.params := by
  unfold seekAnswer
  split <;> simp

theorem readAnswer_params (cls : SlotClass) (image : Option (List Byte)) (o : Outstanding) (s : State) :
    (readAnswer cls image o s).params = s.params := by
  unfold readAnswer
  split <;> simp

theorem escalate_params (number : Byte) (kind : DriveOp → Bool) (s : State) : (escalate number kind s).params = s.params :=
  completion_params _ _ _ _ s fun _ s => by simp

theorem byMode_params (running phase3 : State → State) (s : State) (runs : (running s).params = s.params)
    (tests : (phase3 s).params = s.params) : (byMode running phase3 s).params = s.params := by
  unfold byMode
  split <;> simp [runs, tests]

theorem operationExpired_params (s : State) : (operationExpired s).params = s.params := by
  unfold operationExpired
  split
  next =>
    split
    · simp
    all_goals split_ifs <;> simp
  next => rfl

theorem params_of_finish {s u t : State} (before : u.params = s.params) (ended : finish u = .next t) :
    t.params = s.params := by
  cases ended
  simpa using before

theorem applied_of_finish {s u t : State} (before : ParamsApplied s u) (ended : finish u = .next t) : ParamsApplied s t := by
  cases ended
  simpa [ParamsApplied] using before

/-- The commands that can apply a list of pairs: SET_PARAMETERS, and a request of its kind number. -/
def SetsParameters : Instr → Prop
  | .setParameters _ _ _ => True
  | .unknownRequestKind _ _ kind _ => kind.toNat = 14
  | _ => False

/-- What a command other than the part reset does to the parameters (R173, R175). -/
theorem exec_params (c : Instr) (s t : State) (other : c ≠ .resetNAsserted) (ended : exec c s = .next t) :
    ParamsApplied s t ∧ (¬SetsParameters c → t.params = s.params) := by
  have still (kept : t.params = s.params) : ParamsApplied s t ∧ (¬SetsParameters c → t.params = s.params) :=
    ⟨.inl kept, fun _ => kept⟩
  have request (p : Port) (tag : Tag) (kind : Byte) (b : List Byte) (taken : finish (takeRequest p tag kind b s) = .next t)
      (sets : kind.toNat ≠ 14 ∨ SetsParameters c) : ParamsApplied s t ∧ (¬SetsParameters c → t.params = s.params) := by
    obtain ⟨applied, kept⟩ := takeRequest_params p tag kind b s
    exact ⟨applied_of_finish applied taken, fun no => params_of_finish (kept (sets.resolve_right no)) taken⟩
  cases c with
  | append p tag b => exact request p tag 1 b ended (.inl (by decide))
  | sync p tag b => exact request p tag 2 b ended (.inl (by decide))
  | setClock p tag b => exact request p tag 3 b ended (.inl (by decide))
  | openStream p tag b => exact request p tag 4 b ended (.inl (by decide))
  | closeStream p tag b => exact request p tag 5 b ended (.inl (by decide))
  | reserveStream p tag b => exact request p tag 6 b ended (.inl (by decide))
  | reserveVolume p tag => exact request p tag 6 [255] ended (.inl (by decide))
  | releaseStream p tag b => exact request p tag 7 b ended (.inl (by decide))
  | releaseVolume p tag => exact request p tag 7 [255] ended (.inl (by decide))
  | lockRemoval p tag b => exact request p tag 8 b ended (.inl (by decide))
  | unlockRemoval p tag b => exact request p tag 9 b ended (.inl (by decide))
  | unload p tag b => exact request p tag 10 b ended (.inl (by decide))
  | replayOpen p tag b => exact request p tag 11 b ended (.inl (by decide))
  | replayNext p tag b => exact request p tag 12 b ended (.inl (by decide))
  | replayClose p tag b => exact request p tag 13 b ended (.inl (by decide))
  | setParameters p tag b => exact request p tag 14 b ended (.inr trivial)
  | getParameters p tag b => exact request p tag 15 b ended (.inl (by decide))
  | getStatus p tag b => exact request p tag 16 b ended (.inl (by decide))
  | ackNotice p tag b => exact request p tag 17 b ended (.inl (by decide))
  | unknownRequestKind p tag kind b => exact request p tag kind b ended (Decidable.not_or_of_imp id)
  | abort p tag => exact still (params_of_finish (whenRunning_params _ s (by simp)) ended)
  | portReset p => exact still (params_of_finish (whenRunning_params _ s (by simp)) ended)
  | frameError p => exact still (params_of_finish (whenRunning_params _ s (by simp)) ended)
  | frameErrorLimit p => exact still (params_of_finish (whenRunning_params _ s (by simp)) ended)
  | characterReceived p => exact still (params_of_finish (whenRunning_params _ s (by simp)) ended)
  | activityTimerExpiry p => exact still (params_of_finish (whenRunning_params _ s (by simp)) ended)
  | frameTransmitted p => exact still (params_of_finish (whenRunning_params _ s (by simp)) ended)
  | mounted op capacity serial medium =>
    exact still (params_of_finish (completion_params op _ _ _ s (mountAnswer_params _ _ (by simp))) ended)
  | noMedium op => exact still (params_of_finish (completion_params op _ _ _ s (mountAnswer_params _ _ (by simp))) ended)
  | mountError op => exact still (params_of_finish (completion_params op _ _ _ s (mountAnswer_params _ _ (by simp))) ended)
  | endFound op e =>
    change execEndFound op e s = .next t at ended
    unfold execEndFound at ended
    split at ended
    · exact still (params_of_finish (completion_params op _ _ _ s (by simp)) ended)
    · exact still (params_of_finish (escalate_params op _ s) ended)
  | endError op => exact still (params_of_finish (escalate_params op _ s) ended)
  | seekDone op => exact still (params_of_finish (completion_params op _ _ _ s seekAnswer_params) ended)
  | seekError op => exact still (params_of_finish (escalate_params op _ s) ended)
  | written op => exact still (params_of_finish (completion_params op _ _ _ s (by simp)) ended)
  | writeError op => exact still (params_of_finish (completion_params op _ _ _ s (by simp)) ended)
  | readDone op bytes => exact still (params_of_finish (completion_params op _ _ _ s (readAnswer_params _ _)) ended)
  | blank op => exact still (params_of_finish (completion_params op _ _ _ s (readAnswer_params _ _)) ended)
  | readError op => exact still (params_of_finish (completion_params op _ _ _ s (readAnswer_params _ _)) ended)
  | ejected op => exact still (params_of_finish (completion_params op _ _ _ s (by simp)) ended)
  | ejectError op => exact still (params_of_finish (escalate_params op _ s) ended)
  | verifyResult slot pass => exact still (params_of_finish (byMode_params _ _ s (by simp) rfl) ended)
  | cartridgeInserted =>
    exact still (params_of_finish (byMode_params _ _ s (by unfold cartridgeInserted; split_ifs <;> simp) (by simp)) ended)
  | cartridgeRemoved => exact still (params_of_finish (byMode_params _ _ s (by simp) (by simp)) ended)
  | driveFault => exact still (params_of_finish (byMode_params _ _ s (by simp) (by simp)) ended)
  | driveMessageCorrupt => exact still (params_of_finish rfl ended)
  | operationTimerExpiry => exact still (params_of_finish (operationExpired_params s) ended)
  | sealTimerExpiry => exact still (params_of_finish (by simp) ended)
  | startAgeExpiry bsn => exact still (params_of_finish (by simp) ended)
  | deadlineExpiry p tag => exact still (params_of_finish (by simp) ended)
  | verifyTimerExpiry slot => exact still (params_of_finish (by simp) ended)
  | resetNAsserted => exact absurd rfl other
  | resetNReleased => exact still (params_of_finish (by simp) ended)
  | bufferMemoryTestEnd pass => exact still (params_of_finish (by simp) ended)
  | tableMemoryTestEnd pass => exact still (params_of_finish (by simp) ended)
  | journalClockTick => exact still (params_of_finish (by simp) ended)

/-- Settles O21: a request applies pairs only under the kind number of SET_PARAMETERS, which a well-formed
UNKNOWN_REQUEST_KIND has not. -/
theorem parametersKept : Obligations.ParametersKept := by
  intro c s t wf other notSet ended
  refine (exec_params c s t other ended).2 fun sets => ?_
  cases c with
  | setParameters p tag b => exact notSet p tag b rfl
  | unknownRequestKind p tag kind b =>
    have known : knownKind kind = true := by
      simp only [SetsParameters] at sets
      simp [knownKind, sets]
    simp [Instr.wf, known] at wf
  | _ => exact sets

/-- Settles O22: what is applied has passed the range check of each pair. -/
theorem parametersInRange : Obligations.ParametersInRange := by
  intro s t within stepped
  unfold step at stepped
  split at stepped
  next => cases stepped; exact within
  next c rest queue =>
    by_cases reset : c = .resetNAsserted
    · subst reset
      rw [exec_resetNAsserted] at stepped
      cases stepped
      exact (lawsHold_partReset _).params
    · obtain kept | ⟨pairs, good, applied⟩ := (exec_params c _ t reset stepped).1
      · exact kept ▸ within
      · exact applied ▸ Params.apply_inRange within good

/-! The field checks of Table 10-2: which payloads the port lets pass (R166, R181). -/

/-! ## One parser at a time -/

theorem isSome_noFields (r : Request) (b : List Byte) : (noFields r b).isSome = true ↔ b = [] := by
  unfold noFields
  split <;> simp [*]

theorem isSome_toStream (n : Nat) : (toStream n).isSome = true ↔ n ≤ 15 := by
  unfold toStream
  split <;> simp <;> omega

theorem isSome_parseAppend (b : List Byte) :
    (parseAppend b).isSome = true ↔ b.length = 4 + natAt 2 2 b ∧ natAt 2 2 b ≤ 2000 ∧ natAt 0 1 b ≤ 15 := by
  unfold parseAppend
  dsimp only
  split
  next fits => simp [isSome_toStream, fits.1, Config.maxData] at *; omega
  next tooLong => simp [Config.maxData] at *; omega

theorem isSome_parseStream (f : StreamId → Request) (b : List Byte) :
    (parseStream f b).isSome = true ↔ b.length = 1 ∧ natAt 0 1 b ≤ 15 := by
  unfold parseStream
  split <;> simp [isSome_toStream, *]

theorem isSome_parseTarget (f : Target → Request) (b : List Byte) :
    (parseTarget f b).isSome = true ↔ b.length = 1 ∧ (natAt 0 1 b ≤ 15 ∨ natAt 0 1 b = 255) := by
  unfold parseTarget
  split_ifs <;> simp [isSome_toStream, *]

theorem isSome_parseSetClock (b : List Byte) : (parseSetClock b).isSome = true ↔ b.length = 6 := by
  unfold parseSetClock
  split <;> simp [*]

theorem isSome_parseStart (form n : Nat) :
    (parseStart form n).isSome = true ↔
      form = 1 ∨ (form = 2 ∧ n ≤ 16777215) ∨ (form = 3 ∧ 1 ≤ n ∧ n ≤ 16777216) := by
  unfold parseStart
  split_ifs <;> simp <;> omega

theorem isSome_parseReplayOpen (b : List Byte) :
    (parseReplayOpen b).isSome = true ↔ b.length = 8 ∧
      (natAt 0 1 b = 1 ∨ (natAt 0 1 b = 2 ∧ natAt 1 4 b ≤ 16777215) ∨
        (natAt 0 1 b = 3 ∧ 1 ≤ natAt 1 4 b ∧ natAt 1 4 b ≤ 16777216)) := by
  unfold parseReplayOpen
  split <;> simp [isSome_parseStart, *]

theorem isSome_parseSetParameters (b : List Byte) :
    (parseSetParameters b).isSome = true ↔ 1 ≤ natAt 0 1 b ∧ natAt 0 1 b ≤ 9 ∧ b.length = 1 + 3 * natAt 0 1 b := by
  unfold parseSetParameters
  dsimp only
  split <;> simp [*]

theorem isSome_parseAck (b : List Byte) : (parseAck b).isSome = true ↔ b.length = 2 := by
  unfold parseAck
  split <;> simp [*]

/-- Settles O4: the row of the kind names the parser, and each parser checks the length and the fields of its layout. -/
theorem fieldChecks : Obligations.FieldChecks := by
  intro k b
  unfold parseRequest
  split
  case h_18 => simp_all
  all_goals
    simp [isSome_noFields, isSome_parseAppend, isSome_parseStream, isSome_parseTarget, isSome_parseSetClock,
      isSome_parseReplayOpen, isSome_parseSetParameters, isSome_parseAck]

/-! Frames, drive messages and blocks decode to what they were built from (R6, R7, R163, R181, R182). -/

/-! ## Fields at the front of a byte string -/

/-- A number at the front of a byte string, in all of its bytes (R180). -/
theorem natAt_beBytes_append (w n : Nat) (rest : List Byte) (fits : n < 256 ^ w) : natAt 0 w (beBytes w n ++ rest) = n := by
  rw [natAt_append_left _ _ _ _ (by simp), natAt_all _ _ (by simp), beNat_beBytes _ _ fits]

/-- A field behind a number. -/
theorem natAt_behind (off len w n : Nat) (rest : List Byte) (behind : w ≤ off) :
    natAt off len (beBytes w n ++ rest) = natAt (off - w) len rest := by
  rw [natAt_append_right _ _ _ _ (by simpa using behind), length_beBytes]

theorem beBytes_one (n : Nat) : beBytes 1 n = [BitVec.ofNat 8 n] := rfl

/-! ## Host frames -/

/-- Header and payload of a frame, before its check (R181). -/
def frameBody (frameKind tag requestKind status indicators : Nat) (payload : List Byte) : List Byte :=
  beBytes 1 frameKind ++ beBytes 1 tag ++ beBytes 1 requestKind ++ beBytes 1 status ++ beBytes 2 indicators ++
    beBytes 2 payload.length ++ payload

theorem sealFrame_eq (frameKind tag requestKind status indicators : Nat) (payload : List Byte) :
    sealFrame frameKind tag requestKind status indicators payload =
      frameBody frameKind tag requestKind status indicators payload ++
        beBytes 4 (crc32 (frameBody frameKind tag requestKind status indicators payload)).toNat := rfl

/-- A header and a payload with four bytes of check are sound when the length field is the payload's and the check is the
CRC-32 (R163). -/
theorem frameSound_append (body : List Byte) (crc : BitVec 32) (header : 8 ≤ body.length) :
    frameSound (body ++ beBytes 4 crc.toNat) = true ↔
      natAt 6 2 body ≤ 2040 ∧ body.length = 8 + natAt 6 2 body ∧ crc = crc32 body := by
  have lt : crc.toNat < 256 ^ 4 := by have := crc.isLt; omega
  have len : natAt 6 2 (body ++ beBytes 4 crc.toNat) = natAt 6 2 body := natAt_append_left _ _ _ _ header
  simp only [frameSound, len, Bool.and_eq_true, decide_eq_true_eq, List.length_append, length_beBytes, and_assoc]
  refine and_congr_right fun _ => ?_
  constructor
  · rintro ⟨total, check⟩
    have whole : 8 + natAt 6 2 body = body.length := by omega
    rw [whole, natAt_append_right _ _ _ _ (Nat.le_refl _), Nat.sub_self, natAt_all _ _ (by simp), beNat_beBytes _ _ lt,
      List.take_left] at check
    exact ⟨whole.symm, BitVec.eq_of_toNat_eq check⟩
  · rintro ⟨whole, check⟩
    rw [← whole, natAt_append_right _ _ _ _ (Nat.le_refl _), Nat.sub_self, natAt_all _ _ (by simp), beNat_beBytes _ _ lt,
      List.take_left]
    exact ⟨by omega, congrArg _ check⟩

/-- The fields of a frame stand where the decoder reads them (R181). -/
theorem sealFrame_parts (frameKind tag : Nat) (requestKind : Nat) (payload : List Byte) (kind : frameKind < 256)
    (tags : tag < 256) (fits : payload.length ≤ 2040) :
    frameSound (sealFrame frameKind tag requestKind 0 0 payload) = true ∧
      natAt 0 1 (sealFrame frameKind tag requestKind 0 0 payload) = frameKind ∧
      natAt 1 1 (sealFrame frameKind tag requestKind 0 0 payload) = tag ∧
      natAt 6 2 (sealFrame frameKind tag requestKind 0 0 payload) = payload.length ∧
      (sealFrame frameKind tag requestKind 0 0 payload).getD 2 0 = BitVec.ofNat 8 requestKind ∧
      slice 8 payload.length (sealFrame frameKind tag requestKind 0 0 payload) = payload := by
  have header : (frameBody frameKind tag requestKind 0 0 payload).length = 8 + payload.length := by
    simp [frameBody]
    omega
  have length : natAt 6 2 (frameBody frameKind tag requestKind 0 0 payload) = payload.length := by
    simp only [frameBody, List.append_assoc]
    simp [natAt_behind, natAt_beBytes_append, show payload.length < 65536 by omega]
  refine ⟨?_, ?_, ?_, ?_, ?_, ?_⟩
  · rw [sealFrame_eq, frameSound_append _ _ (by omega), length]
    exact ⟨fits, header, rfl⟩
  · simp only [sealFrame, List.append_assoc]
    exact natAt_beBytes_append _ _ _ kind
  · simp only [sealFrame, List.append_assoc]
    rw [natAt_behind _ _ _ _ _ (Nat.le_refl 1)]
    exact natAt_beBytes_append _ _ _ tags
  · rw [sealFrame_eq, natAt_append_left _ _ _ _ (by omega), length]
  · simp [sealFrame, beBytes_one]
  · simp [sealFrame, slice, beBytes]

theorem toTag_val (t : Tag) : toTag t.val = some t := by
  simp [toTag]

theorem decodeHostFrame_request (p : Port) (t : Tag) (k : Byte) (b : List Byte) (fits : b.length ≤ 2040) :
    decodeHostFrame p (sealFrame 1 t.val k.toNat 0 0 b) = requestCommand p t k b := by
  obtain ⟨sound, kind, tag, length, request, payload⟩ := sealFrame_parts 1 t.val k.toNat b (by decide) (by omega) fits
  simp only [decodeHostFrame, sound, kind, tag, length, request, payload, toTag_val, if_true, BitVec.ofNat_toNat,
    BitVec.setWidth_eq]

theorem decodeHostFrame_abort (p : Port) (t : Tag) : decodeHostFrame p (sealFrame 2 t.val 0 0 0 []) = .abort p t := by
  obtain ⟨sound, kind, tag, length, -, -⟩ := sealFrame_parts 2 t.val 0 [] (by decide) (by omega) (Nat.zero_le _)
  simp [decodeHostFrame, sound, kind, tag, length, toTag_val]

theorem decodeHostFrame_portReset (p : Port) : decodeHostFrame p (sealFrame 3 0 0 0 0 []) = .portReset p := by
  obtain ⟨sound, kind, tag, length, -, -⟩ := sealFrame_parts 3 0 0 [] (by decide) (by decide) (Nat.zero_le _)
  simp [decodeHostFrame, sound, kind, tag, length]

theorem decodeHostFrame_wrongCheck (p : Port) (body : List Byte) (crc : BitVec 32) (header : 8 ≤ body.length)
    (wrong : crc ≠ crc32 body) : decodeHostFrame p (body ++ beBytes 4 crc.toNat) = .frameError p := by
  have unsound : ¬frameSound (body ++ beBytes 4 crc.toNat) = true := by
    rw [frameSound_append _ _ header]
    rintro ⟨-, -, right⟩
    exact wrong right
  exact if_neg unsound

/-! ## Messages from the drive -/

theorem codedBool_code {code : Bool → Byte} (distinct : code true ≠ code false) (b : Bool) : codedBool code (code b) = some b := by
  cases b with
  | true => simp [codedBool]
  | false => simp [codedBool, distinct.symm]

/-- Of kinds with different codes the one of a code is found. -/
theorem find_code {code : DriveKind → Byte} {kinds : List DriveKind} (distinct : (kinds.map code).Nodup) {k : DriveKind}
    (mem : k ∈ kinds) : (kinds.find? fun x => code x == code k) = some k := by
  have exists_ : (kinds.find? fun x => code x == code k).isSome = true := by
    rw [List.find?_isSome]
    exact ⟨k, mem, by simp⟩
  obtain ⟨x, found⟩ := Option.isSome_iff_exists.mp exists_
  have same : code x = code k := by simpa using List.find?_some found
  rw [found, List.inj_on_of_nodup_map distinct (List.mem_of_find?_eq_some found) mem same]

/-- A message of a kind of the drive's stands for the command of its fields (R60, R182). -/
theorem decodeDriveMessageBy_kind (codes : DriveCodes) (distinct : (DriveKind.fromDrive.map codes.kind).Nodup) {k : DriveKind}
    (mem : k ∈ DriveKind.fromDrive) (n : Byte) (fields : List Byte) :
    decodeDriveMessageBy codes (driveMessage (codes.kind k) n fields) =
      (driveCommand codes k n fields).getD .driveMessageCorrupt := by
  obtain ⟨kind, number, rest⟩ := driveMessage_parts (codes.kind k) n fields
  rw [decodeDriveMessageBy, if_pos (messageSound_driveMessage _ _ _), kind, number, rest, find_code distinct mem]
  rfl

theorem decodeDriveMessageBy_unknown (codes : DriveCodes) (kind n : Byte) (fields : List Byte)
    (unknown : ∀ k ∈ DriveKind.fromDrive, codes.kind k ≠ kind) :
    decodeDriveMessageBy codes (driveMessage kind n fields) = .driveMessageCorrupt := by
  have none_ : (DriveKind.fromDrive.find? fun k => codes.kind k == kind) = none := by
    rw [List.find?_eq_none]
    exact fun k mem => by simpa using unknown k mem
  rw [decodeDriveMessageBy, if_pos (messageSound_driveMessage _ _ _), (driveMessage_parts kind n fields).1, none_]
  rfl

/-- A message of any length whose last four bytes are not the CRC-32 over those before them fails its check (R60). -/
theorem messageSound_wrongCheck (body : List Byte) (crc : BitVec 32) (wrong : crc ≠ crc32 body) :
    messageSound (body ++ beBytes 4 crc.toNat) = false := by
  by_cases long : 2 ≤ body.length
  · rw [messageSound_append _ _ long]
    exact decide_eq_false wrong
  · simp [messageSound]
    omega

/-- Settles O60: the encoders lay the fields where the decoders read them, and a CRC-32 that differs fails the check. -/
theorem framesDecode : Obligations.FramesDecode := by
  refine ⟨fun p t k b body fits => ⟨decodeHostFrame_request p t k b fits, decodeHostFrame_abort p t,
    decodeHostFrame_portReset p, fun x length wrong => decodeHostFrame_wrongCheck p body x (by omega) wrong⟩,
    fun codes n distinct media results => ?_⟩
  have decoded {k : DriveKind} {fields : List Byte} {c : Instr} (mem : k ∈ DriveKind.fromDrive)
      (command : driveCommand codes k n fields = some c) :
      decodeDriveMessageBy codes (driveMessage (codes.kind k) n fields) = c := by
    rw [decodeDriveMessageBy_kind codes distinct mem, command]
    rfl
  have mounted (cap : BitVec 32) (ser : BitVec 64) (once : Bool) :
      driveCommand codes .mounted n (beBytes 4 cap.toNat ++ beBytes 8 ser.toNat ++ [codes.medium once]) =
        some (.mounted n cap ser (if once then .writeOnce else .other)) := by
    have capacity := natAt_beBytes_append 4 cap.toNat (beBytes 8 ser.toNat ++ [codes.medium once]) cap.isLt
    have serial := natAt_beBytes_append 8 ser.toNat [codes.medium once] ser.isLt
    simp [driveCommand, natAt_behind, capacity, serial, codedBool_code media]
  refine ⟨fun cap ser => ⟨decoded (by decide) (mounted cap ser true), decoded (by decide) (mounted cap ser false)⟩,
    fun e => decoded (by decide) ?_, fun bytes length => decoded (by decide) ?_, fun slot pass => decoded (by decide) ?_,
    fun x mem => ?_, fun body x wrong => ?_, fun kind fields => decodeDriveMessageBy_unknown codes kind n fields⟩
  · have whole := natAt_beBytes_append 4 e.toNat [] e.isLt
    rw [List.append_nil] at whole
    simp [driveCommand, whole]
  · simp [driveCommand, length, Config.blockSize]
  · have front := natAt_beBytes_append 4 slot.toNat [codes.result pass] slot.isLt
    simp [driveCommand, front, codedBool_code results]
  · simp only [List.mem_cons, List.not_mem_nil, or_false] at mem
    obtain rfl | rfl | rfl | rfl | rfl | rfl | rfl | rfl | rfl | rfl | rfl | rfl | rfl | rfl := mem
    all_goals exact decoded (by simp [DriveKind.fromDrive]) rfl
  · rw [decodeDriveMessageBy, messageSound_wrongCheck body x wrong]
    rfl

/-! A block as it is written reads back as itself (R3, R6, R7). -/

/-! ## Records -/

theorem footprint_bounds (len : Nat) : 16 + len ≤ footprint len ∧ 16 ≤ footprint len := by
  unfold footprint
  omega

theorem length_recordHeader (r : Record) : r.header.length = 16 := by simp [Record.header]

theorem length_recordBytes (r : Record) : r.bytes.length = footprint r.payload.length := by
  have := footprint_bounds r.payload.length
  simp [Record.bytes, length_recordHeader]
  omega

/-- The length field of a record's header (Table 12-4). -/
theorem recordBytes_length_field (r : Record) (short : r.payload.length ≤ 2000) :
    beNat [r.bytes.getD 12 0, r.bytes.getD 13 0] = r.payload.length := by
  have field : [r.bytes.getD 12 0, r.bytes.getD 13 0] = beBytes 2 r.payload.length := by
    simp [Record.bytes, Record.header, beBytes]
  rw [field, beNat_beBytes _ _ (by omega)]

theorem length_flatMap_bytes (records : List Record) :
    (records.flatMap Record.bytes).length = (records.map fun r => footprint r.payload.length).sum := by
  simp [List.length_flatMap, length_recordBytes]

/-! ## The walk through the record area -/

/-- The walk from an offset at which the records given stand, up to the fill length, finds them (R7). -/
theorem walk_records (image : List Byte) (fill k off : Nat) (records : List Record)
    (short : ∀ r ∈ records, r.payload.length ≤ 2000) (ends : off + (records.flatMap Record.bytes).length = fill)
    (stands : ∀ i, i < (records.flatMap Record.bytes).length →
      areaByte image (off + i) = (records.flatMap Record.bytes).getD i 0)
    (fuel : fill - off < 16 * k) : walk image fill k off = records.map Record.bytes := by
  induction records generalizing k off with
  | nil =>
    have past : ¬off < fill := by simp at ends; omega
    cases k <;> simp [walk, past]
  | cons r rest ih =>
    have foot := footprint_bounds r.payload.length
    have size := length_recordBytes r
    rw [List.flatMap_cons, List.length_append, size] at ends
    obtain ⟨k, rfl⟩ : ∃ j, k = j + 1 := ⟨k - 1, by omega⟩
    have inRecord : ∀ i, i < footprint r.payload.length → areaByte image (off + i) = r.bytes.getD i 0 := by
      intro i lt
      rw [stands i (by rw [List.flatMap_cons, List.length_append, size]; omega), List.flatMap_cons,
        List.getD_append _ _ _ _ (by omega)]
    have len : beNat [areaByte image (off + 12), areaByte image (off + 13)] = r.payload.length := by
      rw [inRecord 12 (by omega), inRecord 13 (by omega), recordBytes_length_field r (short r List.mem_cons_self)]
    have whole : (List.range (footprint r.payload.length)).map (fun i => areaByte image (off + i)) = r.bytes := by
      refine List.ext_getElem (by simp [size]) fun i lt lt' => ?_
      simp only [List.length_map, List.length_range] at lt
      simp [inRecord i lt, lt']
    simp only [walk, if_pos (show off < fill by omega), len, whole, List.map_cons]
    rw [ih k (off + footprint r.payload.length) (fun x mem => short x (List.mem_cons_of_mem r mem)) (by omega) ?_ (by omega)]
    intro i lt
    rw [Nat.add_assoc, stands _ (by rw [List.flatMap_cons, List.length_append, size]; omega), List.flatMap_cons,
      List.getD_append_right _ _ _ _ (by omega), size, Nat.add_sub_cancel_left]

/-! ## Blocks -/

theorem length_headerBytes (bsn session : Nat) (cause : SealCause) (count fill firstRsn : Nat) (serial : BitVec 64) :
    (headerBytes bsn session cause count fill firstRsn serial).length = 28 := by
  simp [headerBytes]

theorem length_areaBytes (records : List Record) (fits : (records.flatMap Record.bytes).length ≤ 2016) :
    (areaBytes records).length = 2016 := by
  simp only [areaBytes, List.length_append, List.length_replicate, Config.areaSize]
  omega

/-- The fields of a block's header stand where the reader looks for them (Table 12-3). -/
theorem headerBytes_parts (bsn session : Nat) (cause : SealCause) (count fill firstRsn : Nat) (serial : BitVec 64)
    (bsnFits : bsn < 4294967296) (sessionFits : session < 65536) (countFits : count < 256) (fillFits : fill < 65536)
    (rsnFits : firstRsn < 281474976710656) :
    natAt 0 4 (headerBytes bsn session cause count fill firstRsn serial) = formatTag ∧
      natAt 4 4 (headerBytes bsn session cause count fill firstRsn serial) = bsn ∧
      natAt 8 2 (headerBytes bsn session cause count fill firstRsn serial) = session ∧
      natAt 11 1 (headerBytes bsn session cause count fill firstRsn serial) = count ∧
      natAt 12 2 (headerBytes bsn session cause count fill firstRsn serial) = fill ∧
      natAt 14 6 (headerBytes bsn session cause count fill firstRsn serial) = firstRsn := by
  simp only [headerBytes, List.append_assoc]
  refine ⟨natAt_beBytes_append _ _ _ (by decide), ?_, ?_, ?_, ?_, ?_⟩
  all_goals simp [natAt_behind, natAt_beBytes_append, bsnFits, sessionFits, countFits, fillFits, rsnFits]

/-- A byte of the record area of a block's image. -/
theorem areaByte_image (header area : List Byte) (crc : BitVec 32) (i : Nat) (len : header.length = 28) (lt : i < 2016) :
    areaByte (header ++ beBytes 4 crc.toNat ++ area) i = area.getD i 0 := by
  have front : (header ++ beBytes 4 crc.toNat).length = 32 := by simp [len]
  rw [areaByte, if_pos (by simpa [Config.areaSize] using lt), List.getD_append_right _ _ _ _ (by omega), front,
    Nat.add_sub_cancel_left]

/-- Settles O59: the header is judged by `classify_parts`, and the walk finds each record at the end of the one before. -/
theorem blockReadsBack : Obligations.BlockReadsBack := by
  intro b bsnFits sessionFits countFits rsnFits short fill fits check
  have filled : (b.records.flatMap Record.bytes).length = b.fill := (length_flatMap_bytes b.records).trans fill.symm
  have area := length_areaBytes b.records (filled ▸ fits)
  have header := length_headerBytes b.bsn b.session b.cause b.count b.fill b.firstRsn b.serial
  obtain ⟨tag, bsn, session, count, fillField, rsn⟩ := headerBytes_parts b.bsn b.session b.cause b.count b.fill b.firstRsn
    b.serial bsnFits sessionFits countFits (by omega) rsnFits
  constructor
  · rw [Block.image, classify_parts _ _ _ header area tag check, bsn, session, count, fillField, rsn]
  · have stored : natAt 12 2 b.image = b.fill := by
      rw [Block.image, List.append_assoc, natAt_append_left _ _ _ _ (by omega), fillField]
    unfold slotRecords
    simp only [stored]
    refine walk_records _ _ _ _ _ short (by omega) (fun i lt => ?_) (by omega)
    rw [Nat.zero_add, Block.image, areaByte_image _ _ _ _ header (by omega), areaBytes, List.getD_append _ _ _ _ lt]

/-! Reset and the start-up phases (R178), and the requests that a port or the Control Unit answers at once. -/

/-! ## The part reset and the test phases -/

/-- Settles O2: each field of the reset state, read off. -/
theorem resetAsserted : Obligations.ResetAsserted := by
  intro s
  refine ⟨partReset s, exec_resetNAsserted s, ?_⟩
  simp only [port_partReset, notices_partReset, cursor_partReset]
  refine ⟨rfl, rfl, rfl, rfl, rfl, rfl, rfl, rfl, rfl, rfl, rfl, fun p => rfl, rfl, rfl, rfl, rfl, rfl, rfl, rfl, rfl,
    fun c => ?_, rfl, rfl, rfl, rfl, rfl, fun p => by simp [Cursor.reset], fun x => ?_, rfl, fun p => ?_, fun p => rfl⟩
  · cases c with
    | cursor p => simp [partReset, State.reset, MediumPort.reset, MediumPort.waits, PortSet.empty]
    | volume | engine => rfl
  · simp [partReset, State.reset, State.stream, Claims.reset, StreamEntry.reset]
  · simp [partReset, State.reset, Claims.reset, PortSet.empty]

/-- Settles O3: each phase acts in its own test state only. -/
theorem startUpPhases : Obligations.StartUpPhases := by
  intro s quiet
  refine ⟨fun held => ?_, fun phase => ?_, fun phase => ?_, fun phase idle => ?_, fun phase => ?_⟩
  · change finish (releaseReset s) = _
    rw [releaseReset, if_pos held]
    exact finish_quiet _ quiet
  · change finish (endPhase1 true s) = _
    rw [endPhase1, if_pos phase, if_pos rfl]
    exact finish_quiet _ quiet
  · change finish (endPhase1 false s) = _
    rw [endPhase1, if_pos phase, if_neg Bool.false_ne_true]
    exact finish_quiet _ quiet
  · change finish (endPhase2 true s) = _
    rw [endPhase2, if_pos phase, if_pos rfl, checkMount, issue, if_pos (show (s.setTest .phase3 3).mpt.link = none from idle)]
    exact finish_quiet _ quiet
  · change finish (endPhase2 false s) = _
    rw [endPhase2, if_pos phase, if_neg Bool.false_ne_true]
    exact finish_quiet _ quiet

/-! ## Requests by kind number -/

/-- A request frame is taken at its port with its kind number, whatever command it is (R163, R181). -/
theorem exec_requestCommand (p : Port) (t : Tag) (k : Byte) (b : List Byte) (s : State) :
    exec (requestCommand p t k b) s = finish (takeRequest p t k b s) := by
  have kind (n : Nat) (eq : k.toNat = n) : k = BitVec.ofNat 8 n := by simp [← eq]
  unfold requestCommand
  split
  case h_6 eq | h_7 eq =>
    obtain rfl := kind _ eq
    split
    next names =>
      obtain rfl : b = [255#8] := by simpa [namesVolume] using names
      rfl
    next => rfl
  case h_18 => rfl
  all_goals
    next eq =>
      obtain rfl := kind _ eq
      rfl

/-- The indicators of a reply to a request of a kind, with neither ALREADY nor GAP (R167). -/
abbrev State.marksFor (s : State) (k : Byte) : Indicators := { s.marks with clockUnset := k == 1 && s.adu.clock.isNone }

theorem State.marksFor_of_ne (s : State) {k : Byte} (notAppend : k ≠ 1) : s.marksFor k = s.marks := by
  have other : (k == 1) = false := beq_false_of_ne notAppend
  rw [State.marksFor, other]
  rfl

section Answered

variable {s : State} {p : Port} {t : Tag} {k : Byte} {b : List Byte}

/-- A reply in a state that has the ports of a request taken, and the level and the clock of the state before. -/
theorem reply_of_taken (h : Ready s p t) (st : Status) (body : ReplyBody) (u : State) (x : TagSlot)
    (taken : u.ports = s.taken p t x) (low : u.low = s.low) (clock : u.adu.clock = s.adu.clock)
    (busy : x.state ≠ .idle) (kind : x.kindByte = k) :
    reply p t st body u = { u with ports := s.answered p t k st body (s.marksFor k) } := by
  rw [reply, replyWith_taken p t st body false false s u _ taken h busy, low, clock, kind]
  rfl

/-- A step that takes a request and replies to it, in a state that differs from the one before only outside the ports. -/
theorem finish_reply_of_taken (h : Ready s p t) (st : Status) (body : ReplyBody) (u : State)
    (taken : u.ports = s.taken p t (TagSlot.dispatch k b)) (low : u.low = s.low) (clock : u.adu.clock = s.adu.clock)
    (quiet : u.signals = []) :
    finish (reply p t st body u) = .next (driveInhibit { u with ports := s.answered p t k st body (s.marksFor k) }) := by
  rw [reply_of_taken h st body u _ taken low clock TagState.noConfusion rfl]
  exact finish_quiet _ quiet

/-- The fields fail the checks (R166, step 2). -/
theorem finish_takeRequest_malformed (h : Ready s p t) (len : b.length ≤ 2040) (parsed : parseRequest k.toNat b = none) :
    finish (takeRequest p t k b s) =
      .next (driveInhibit { s with ports := s.answered p t k .badRequest .empty (s.marksFor k) }) := by
  rw [takeRequest_ready p t k b s h len, dispatched, parsed]
  exact finish_reply_of_taken h _ _ _ rfl rfl rfl h.1.1.2

/-- The gate is closed (R166, step 3). -/
theorem finish_takeRequest_closed (h : Ready s p t) (len : b.length ≤ 2040) {r : Request}
    (parsed : parseRequest k.toNat b = some r) (gated : r.gated = true) (closed : ¬GateOpen s p) :
    finish (takeRequest p t k b s) =
      .next (driveInhibit { s with ports := s.answered p t k .attention .empty (s.marksFor k) }) := by
  have shut : r.gated = true ∧ (s.receiving p t k b).gateClosed p = true := ⟨gated, (s.gateClosed_iff p).mpr closed⟩
  have refused : takeRequest p t k b s = reply p t .attention .empty (s.receiving p t k b) := by
    rw [takeRequest_ready p t k b s h len, dispatched, parsed]
    exact if_pos shut
  rw [refused]
  exact finish_reply_of_taken h _ _ _ rfl rfl rfl h.1.1.2

/-- The owner replies in a state that differs from the one at the port only outside the ports (R166, step 4). -/
theorem finish_takeRequest_replied (h : Ready s p t) (len : b.length ≤ 2040) {r : Request}
    (parsed : parseRequest k.toNat b = some r) (gate : r.gated = true → GateOpen s p) (st : Status) (body : ReplyBody)
    (u : State) (served : serve p t r (s.receiving p t k b) = reply p t st body u)
    (taken : u.ports = s.taken p t (TagSlot.dispatch k b)) (low : u.low = s.low) (clock : u.adu.clock = s.adu.clock)
    (quiet : u.signals = []) :
    finish (takeRequest p t k b s) = .next (driveInhibit { u with ports := s.answered p t k st body (s.marksFor k) }) := by
  rw [takeRequest_served h len parsed gate, served]
  exact finish_reply_of_taken h st body u taken low clock quiet

end Answered

/-! ## Requests refused at the port -/

/-- Kind numbers outside 1 to 17 stand for no request. -/
theorem parseRequest_unknown {k : Nat} (b : List Byte) (unknown : k = 0 ∨ 17 < k) : parseRequest k b = none := by
  unfold parseRequest
  split
  case h_18 => rfl
  all_goals omega

/-- Settles O5: the parse comes before the gate. -/
theorem malformedRefused : Obligations.MalformedRefused := by
  intro s p t k b h len
  refine ⟨fun parsed => ?_, fun unknown => ?_⟩
  · rw [exec_requestCommand]
    exact finish_takeRequest_malformed h len parsed
  · have notAppend : k ≠ 1 := by
      rintro rfl
      revert unknown
      decide
    rw [← s.marksFor_of_ne notAppend]
    exact finish_takeRequest_malformed h len (parseRequest_unknown b unknown)

/-- The kinds that the gate stops are the gated rows of Table 10-2 (R160). -/
theorem gated_of_kind {k : Nat} {b : List Byte} {r : Request} (parsed : parseRequest k b = some r)
    (kinds : k ∈ [1, 2, 3, 4, 5, 6, 8, 10, 11, 12]) : r.gated = true := by
  have target : ∀ {b : List Byte} {r : Request}, parseTarget .reserve b = some r → r.gated = true := by
    intro b r parsed
    unfold parseTarget at parsed
    split_ifs at parsed
    · cases parsed
      rfl
    · obtain ⟨x, -, rfl⟩ := Option.map_eq_some_iff.mp parsed
      rfl
  simp only [List.mem_cons, List.not_mem_nil, or_false] at kinds
  obtain rfl | rfl | rfl | rfl | rfl | rfl | rfl | rfl | rfl | rfl := kinds
  case inr.inr.inr.inr.inr.inl => exact target parsed
  all_goals
    simp [parseRequest, parseAppend, noFields, parseSetClock, parseStream, parseReplayOpen] at parsed
    grind [Request.gated]

/-- The gating notices are the five kinds of Table 9-1. -/
theorem not_gateOpen {s : State} {p : Port}
    (held : ∃ e ∈ (s.notices p).queue,
      (∃ c, e.body = .resetOccurred c) ∨ (∃ a b c d f, e.body = .volumeLoaded a b c d f) ∨
        (∃ r, e.body = .volumeRejected r) ∨ (∃ c h n, e.body = .volumeGone c h n) ∨ (∃ c n, e.body = .writeFailed c n)) :
    ¬GateOpen s p := by
  obtain ⟨e, mem, gating⟩ := held
  intro gate
  have passes := gate e mem
  rcases gating with ⟨_, body⟩ | ⟨_, _, _, _, _, body⟩ | ⟨_, body⟩ | ⟨_, _, _, body⟩ | ⟨_, _, body⟩ <;>
    simp [body, Notice.gating] at passes

/-- Settles O6: a gated request meets the gate before its owner. -/
theorem gatedRefused : Obligations.GatedRefused := by
  intro s p t k b h len good kinds held
  obtain ⟨r, parsed⟩ := Option.isSome_iff_exists.mp good
  rw [exec_requestCommand]
  exact finish_takeRequest_closed h len parsed (gated_of_kind parsed kinds) (not_gateOpen held)

/-! ## RESERVE of the volume (R147) -/

theorem State.otherStream_iff (s : State) (p : Port) :
    s.srt.otherStream p = true ↔ ∃ x, heldByOther (s.stream x).holder p = true := by
  simp only [Claims.otherStream, List.any_eq_true]
  constructor
  · rintro ⟨e, mem, held⟩
    obtain ⟨i, lt, rfl⟩ := Vector.mem_iff_getElem.mp (Vector.mem_toList_iff.mp mem)
    exact ⟨⟨i, lt⟩, held⟩
  · rintro ⟨x, held⟩
    exact ⟨s.stream x, Vector.mem_toList_iff.mpr (Vector.getElem_mem x.isLt), held⟩

/-- The status, the ALREADY indicator and the holder that a RESERVE of the volume gives behind the gate: the checks of R147 in
order, and the grant. -/
def State.volumeReservation (s : State) (p : Port) : Status × Bool × Option Port :=
  if ¬(s.vom.state = .ready ∨ s.vom.state = .draining ∨
      (s.vom.state = .faulted ∧ s.vom.cause ≠ some .drive)) then (.notReady, false, s.srt.volume)
  else if ∃ q, q ≠ p ∧ s.srt.volume = some q then (.conflict, false, s.srt.volume)
  else if ∃ x q, q ≠ p ∧ (s.stream x).holder = some q then (.conflict, false, s.srt.volume)
  else if s.srt.volume = some p then (.done, true, s.srt.volume)
  else (.done, false, some p)

/-- RESERVE of the volume is one reply, after the holder it gives has been written. -/
theorem reserveVolume_eq (p : Port) (t : Tag) (s : State) :
    reserveVolume p t s =
      replyWith p t (s.volumeReservation p).1 .empty (s.volumeReservation p).2.1 false
        { s with srt := { s.srt with volume := (s.volumeReservation p).2.2 } } := by
  simp only [reserveVolume, State.volumeReservation, ← VolumeRecord.readable_iff, ← heldByOther_iff, ← State.otherStream_iff,
    Bool.not_eq_true, reply]
  split_ifs <;> rfl

/-- Settles O8: at a closed gate the port refuses; behind it the reply and the holder are those of `volumeReservation`. -/
theorem Settled.reserveVolume : Obligations.ReserveVolume := by
  intro s p t st already v h verdict
  have parsed : parseRequest (6 : Byte).toNat [255] = some (.reserve .volume) := parseTarget_volume .reserve
  change finish (takeRequest p t 6 [255] s) = _
  by_cases gate : GateOpen s p
  · rw [if_neg (not_not_intro gate)] at verdict
    change (st, already, v) = s.volumeReservation p at verdict
    refine finish_takeRequest_answered h (by decide) (by simp) parsed (fun _ => gate) ?_
    have served := reserveVolume_eq p t (s.receiving p t 6 [255])
    rw [show (s.receiving p t 6 [255]).volumeReservation p = (st, already, v) from verdict.symm] at served
    exact served
  · rw [if_pos gate] at verdict
    obtain ⟨rfl, rfl, rfl⟩ := verdict
    exact finish_takeRequest_gated h (by decide) (by simp) parsed rfl gate

/-! ## GET_PARAMETERS and GET_STATUS (R176, R177) -/

/-- Settles O11: neither request is gated, and each is one reply. -/
theorem statusReads : Obligations.StatusReads := by
  intro s p t h
  refine ⟨?_, rfl, ?_⟩
  · exact finish_takeRequest_replied (k := 15) h (by simp) (b := []) rfl Bool.noConfusion .done (.params s.params)
      (s.receiving p t 15 []) rfl rfl rfl rfl
      h.1.1.2
  · have snapshot : (s.receiving p t 16 []).snapshot p =
        { volume := s.vom, ejectInhibit := s.ejectInhibit, counts := s.counts, nextBsn := s.pool.nextBsn
          nextRsn := s.adu.nextRsn, clock := s.adu.clock, claims := s.srt, cursorState := (s.cursor p).state
          readPos := (s.cursor p).readPos, nBuffered := (s.cursor p).buffered.length
          tags := ((s.port p).tags.map fun x => x.state).set t .dispatching } := by
      have tags : ((s.receiving p t 16 []).port p).tags = (s.port p).tags.set t (TagSlot.dispatch 16 []) := by
        simp [State.receiving, State.taken, State.port]
      rw [State.snapshot, tags, Vector.map_set]
      rfl
    rw [← snapshot]
    exact finish_takeRequest_replied (k := 16) h (by simp) (b := []) rfl Bool.noConfusion .done _
      (s.receiving p t 16 []) rfl rfl rfl rfl h.1.1.2

/-! How a step is run: the reports of a step one after the other, and what the operations that several blocks share do where
nothing stands in their way. -/

/-! ## Acting on reports -/

/-- Acting on `k` reports takes a state to another, whatever number of reports may follow. -/
def Settles (k : Nat) (s t : State) : Prop := ∀ n, settle (n + k) s = settle n t

theorem Settles.refl (s : State) : Settles 0 s s := fun _ => rfl

theorem Settles.trans {j k : Nat} {s t u : State} (a : Settles j s t) (b : Settles k t u) : Settles (k + j) s u := fun n => by
  rw [← Nat.add_assoc, a, b]

/-- One report is acted on; those its handling raises come first. -/
theorem Settles.report {g : Signal} {rest : List Signal} {s u : State} (queue : s.signals = g :: rest)
    (acted : handle g { s with signals := [] } = u) : Settles 1 s { u with signals := u.signals ++ rest } := fun n => by
  rw [settle_cons n s g rest queue, settleOne, acted]

/-- The last report is acted on. -/
theorem Settles.last {g : Signal} {s u : State} (queue : s.signals = [g]) (acted : handle g { s with signals := [] } = u) :
    Settles 1 s u := by
  have one := Settles.report queue acted
  rwa [List.append_nil] at one

/-- A step ends in the state in which no report is left. -/
theorem finish_of_settles {k : Nat} {s t : State} (run : Settles k s t) (quiet : t.signals = [])
    (few : k ≤ 4096 := by decide) : finish s = .next (driveInhibit t) := by
  obtain ⟨n, bound⟩ := Nat.exists_eq_add_of_le' few
  rw [finish, show Config.settleBound = n + k from bound, run n, settle_quiet n t quiet]

/-! ## R and the capacity level (R105, R106) -/

theorem evalLevel_stays {s : State} {r : Int} (set_ : s.vom.remaining = some r) (stays : LevelStays s r) : evalLevel s = s := by
  obtain ⟨above, normal⟩ := stays
  have notFull : ¬r ≤ Config.closeMargin := by simp [Config.closeMargin, above]
  have notLow : ¬(s.vom.level = some .normal ∧ r ≤ s.params.ewReserve) := fun ⟨level, low⟩ => by
    have := normal level
    omega
  unfold evalLevel
  split
  · rfl
  next r' eq =>
    obtain rfl : r = r' := Option.some.inj (set_.symm.trans eq)
    simp [notFull, notLow]

theorem recomputeR_same {s : State} (same : s.vom.remaining = s.remainingNow) : recomputeR s = s :=
  if_neg fun ⟨_, changed⟩ => changed same

theorem recomputeR_idle {s : State} (idle : s.vom.counting = false) : recomputeR s = s :=
  if_neg fun ⟨counting, _⟩ => by simp [idle] at counting

/-- R takes its value by the definition, where that value leaves the level as it is. -/
theorem recomputeR_stays {s : State} {r : Int} (counting : s.vom.counting = true) (now : s.remainingNow = some r)
    (stays : LevelStays s r) : recomputeR s = { s with vom := { s.vom with remaining := some r } } := by
  by_cases same : s.vom.remaining = some r
  · rw [recomputeR_same (same.trans now.symm), ← same]
  · rw [recomputeR, if_pos ⟨counting, now ▸ same⟩, now]
    exact evalLevel_stays rfl stays

/-! ## The engine in the middle of a write -/

section MidWrite

variable {s : State}

theorem engineSettle_midWrite (mid : MidWrite s) : engineSettle s = s := by
  obtain ⟨running, writing, noYield⟩ := mid
  have noWrite : writeCheck s = s := by
    unfold writeCheck
    split
    · rfl
    · exact if_neg fun ⟨_, none_, _⟩ => writing none_
  have notOver : s.burstOver = false := by
    obtain ⟨w, writing⟩ := Option.ne_none_iff_exists'.mp writing
    simp [State.burstOver, writing]
  simp [engineSettle, running, noYield, noWrite, burstEnd, notOver]

theorem engineStart_midWrite (mid : MidWrite s) : engineStart s = s := by
  have running := mid.1
  simp [engineStart, running, engineSettle_midWrite mid]

theorem engineCheck_midWrite (mid : MidWrite s) : engineCheck s = s := by
  have running := mid.1
  simp [engineCheck, running, engineSettle_midWrite mid]

end MidWrite

/-! ## Sealing (R44) -/

/-- A state after its open block has been sealed. -/
def State.sealedWith (s : State) (cause : SealCause) (o : OpenBlock) : State :=
  { s with pool := { s.pool with
      opened := none, nextBsn := some (s.pool.nextBsn.getD 0 + 1)
      sealed := s.pool.sealed ++ [sealedBlock o cause (s.pool.nextBsn.getD 0) (s.vom.session.getD 0) (s.vom.serial.getD 0)
        s.params.startAge] } }

theorem sealedWith_remainingNow (s : State) (cause : SealCause) {o : OpenBlock} (opened : s.pool.opened = some o) :
    (s.sealedWith cause o).remainingNow = s.remainingNow := by
  unfold State.remainingNow State.sealedWith
  cases s.vom.capacity <;> cases s.vom.appendPoint <;> simp [opened]
  omega

/-- Sealing leaves R as it is, for a block less is open and one more is sealed (R44, R105). -/
theorem sealBlock_open (cause : SealCause) {s : State} {o : OpenBlock} (opened : s.pool.opened = some o)
    (same : s.vom.remaining = s.remainingNow) : sealBlock cause s = raise .arrival (s.sealedWith cause o) := by
  have kept : (s.sealedWith cause o).vom.remaining = (s.sealedWith cause o).remainingNow :=
    same.trans (sealedWith_remainingNow s cause opened).symm
  unfold sealBlock
  rw [opened]
  exact congrArg (raise .arrival) (recomputeR_same kept)

theorem sealBlock_none (cause : SealCause) {s : State} (closed : s.pool.opened = none) : sealBlock cause s = s := by
  simp [sealBlock, closed]

/-! The head of the admission queue: the tests of Table 2-3 in the words of the statements, and a writing request that comes to
the head of an empty queue. -/

/-! ## The tests at the head (Table 2-3) -/

theorem State.needsBlock_iff (s : State) (foot : Nat) :
    s.needsBlock foot = true ↔ ∀ o, s.pool.opened = some o → 2016 < o.fill + foot := by
  cases opened : s.pool.opened <;> simp [State.needsBlock, Pool.fill, opened, Config.areaSize]

theorem State.rsnExhausted_iff (s : State) : s.rsnExhausted = true ↔ ∀ r, s.adu.nextRsn = some r → 281474976710656 ≤ r := by
  cases next : s.adu.nextRsn with
  | none => simp [State.rsnExhausted, next]
  | some r => simp [State.rsnExhausted, next]; rfl

/-- The tests of space in the words of R20, R21 and R27. -/
theorem State.spaceTest_eq (s : State) (foot : Nat) (margin : Int) :
    s.spaceTest foot margin =
      if s.spaceRefused foot margin then .refused .volumeFull
      else if s.needsBlock foot = true ∧ s.pool.free = 0 then .held else .granted := by
  simp only [State.spaceTest, State.spaceRefused, ← State.needsBlock_iff, ← State.rsnExhausted_iff]
  by_cases full : s.needsBlock foot = true ∧ s.vom.remaining.getD 0 - 1 < margin
  · rw [if_pos full, if_pos (.inl full)]
  · rw [if_neg full]
    by_cases hold : s.needsBlock foot = true ∧ s.pool.free = 0
    · rw [if_pos hold, if_neg (not_or.mpr ⟨full, fun ⟨room, _⟩ => room hold⟩), if_pos hold]
    · rw [if_neg hold, if_neg hold]
      by_cases used : s.rsnExhausted = true
      · rw [if_pos used, if_pos (.inr ⟨hold, used⟩)]
      · rw [if_neg used, if_neg (not_or.mpr ⟨full, fun ⟨_, no⟩ => used no⟩)]

theorem heldByOther_or_iff (v h : Option Port) (p : Port) :
    (heldByOther v p = true ∨ heldByOther h p = true) ↔ ∃ q, q ≠ p ∧ (v = some q ∨ h = some q) := by
  simp only [heldByOther_iff]
  constructor
  · rintro (⟨q, other, held⟩ | ⟨q, other, held⟩)
    · exact ⟨q, other, .inl held⟩
    · exact ⟨q, other, .inr held⟩
  · rintro ⟨q, other, held | held⟩
    · exact .inl ⟨q, other, held⟩
    · exact .inr ⟨q, other, held⟩

theorem State.clockAbove_eq (s : State) (v : Nat) : s.clockAbove v = s.adu.clock.any fun c => decide (v < c) := by
  cases clock : s.adu.clock <;> simp [State.clockAbove, clock]

/-- A volume that is not READY refuses every writing request (Table 2-2). -/
theorem State.volumeRefusal_eq (s : State) :
    s.volumeRefusal =
      if s.vom.state ≠ .ready then
        some (if s.vom.state = .faulted ∧ s.vom.cause ≠ some .drive then .writeFailed else .notReady)
      else none := by
  unfold State.volumeRefusal
  cases s.vom.state <;> simp
  cases s.vom.cause with
  | none => simp
  | some c => cases c <;> simp

/-- The verdict at the head: the refusal of Table 2-3 where there is one; else ALREADY of an OPEN stream, the hold, or the
admission. -/
theorem State.verdict_eq (s : State) (p : Port) (w : Writing) :
    s.verdict p w =
      match s.writingRefusal p w with
      | some st => .refused st
      | none =>
        match w with
        | .sync => .granted
        | .openStream x =>
          if (s.stream x).isOpen = true then .already
          else if s.needsBlock w.foot = true ∧ s.pool.free = 0 then .held else .granted
        | _ => if s.needsBlock w.foot = true ∧ s.pool.free = 0 then .held else .granted := by
  unfold State.verdict State.writingRefusal
  rw [State.volumeRefusal_eq]
  by_cases ready : s.vom.state ≠ .ready
  · simp [ready]
  · rw [if_neg ready, if_neg ready]
    cases w with
    | sync => rfl
    | append x sync len =>
      simp only [State.kindTest, State.spaceTest_eq, heldByOther_or_iff, Writing.foot, Writing.margin, footprint,
        Config.closeMargin]
      split_ifs <;> simp [*]
    | setClock v =>
      simp only [State.kindTest, State.spaceTest_eq, heldByOther_iff, State.clockAbove_eq, Writing.foot, Writing.margin, footprint,
        Config.closeMargin]
      split_ifs <;> simp [*]
    | openStream x =>
      simp only [State.kindTest, State.spaceTest_eq, heldByOther_iff, Writing.foot, Writing.margin, footprint,
        Config.closeMargin]
      split_ifs <;> simp [*]
    | closeStream x =>
      simp only [State.kindTest, State.spaceTest_eq, heldByOther_or_iff, Writing.foot, Writing.margin, footprint]
      split_ifs <;> simp [*]

theorem State.verdict_refused {s : State} {p : Port} {w : Writing} {st : Status} (refused : s.writingRefusal p w = some st) :
    s.verdict p w = .refused st := by
  rw [State.verdict_eq, refused]

/-- A request that no test refuses and that would make a record is held where it needs a block and none is FREE. -/
theorem State.verdict_passed {s : State} {p : Port} {w : Writing} (passed : s.writingRefusal p w = none)
    (makes : s.makesRecord w) :
    s.verdict p w = if s.needsBlock w.foot = true ∧ s.pool.free = 0 then .held else .granted := by
  rw [State.verdict_eq, passed]
  cases w with
  | sync => exact makes.elim
  | openStream x =>
    have closed : ¬(s.stream x).isOpen = true := by simpa [State.makesRecord] using makes
    exact if_neg closed
  | append _ _ _ | setClock _ | closeStream _ => rfl

/-! ## One evaluation of the head (R17) -/

theorem evalNext_empty {s : State} (empty : s.adu.queue = []) : evalNext s = s := if_pos empty

section EvalHead

variable {s : State} {e : Entry} {rest : List Entry}

theorem evalHead_refused {st : Status} (queue : s.adu.queue = e :: rest) (verdict : s.verdict e.port e.request = .refused st) :
    evalHead s = evalNext (reply e.port e.tag st .empty (s.setQueue rest)) := by
  simp [evalHead, queue, verdict]

theorem evalHead_already (queue : s.adu.queue = e :: rest) (verdict : s.verdict e.port e.request = .already) :
    evalHead s = evalNext (replyWith e.port e.tag .done .empty true false (s.setQueue rest)) := by
  simp [evalHead, queue, verdict]

theorem evalHead_held (queue : s.adu.queue = e :: rest) (verdict : s.verdict e.port e.request = .held) :
    evalHead s = (sealBlock .full s).setQueue ({ e with held := true } :: rest) := by
  simp [evalHead, queue, verdict]

theorem evalHead_granted (queue : s.adu.queue = e :: rest) (verdict : s.verdict e.port e.request = .granted) :
    evalHead s = evalNext (admission e.port e.tag e.request (s.setQueue rest)) := by
  simp [evalHead, queue, verdict]

end EvalHead

/-! ## A writing request that comes to the head of an empty queue -/

/-- The slot of a writing request in the queue. -/
def TagSlot.queued (kind : Byte) (payload : List Byte) : TagSlot := { TagSlot.dispatch kind payload with state := .queued }

/-- The entry of a writing request just taken (R16, R26). -/
def State.entry (s : State) (p : Port) (t : Tag) (w : Writing) : Entry :=
  { port := p, tag := t, request := w, held := false
    deadline := if s.params.holdLimit = 0 then none else some s.params.holdLimit }

/-- The state in which a writing request taken at a port stands alone in the queue, before its evaluation. -/
def State.queuing (s : State) (p : Port) (t : Tag) (k : Byte) (b : List Byte) (w : Writing) : State :=
  { s with
    ports := s.taken p t (TagSlot.queued k b)
    adu := { s.adu with queue := [s.entry p t w] } }

theorem Settles.raised {g : Signal} {s u : State} (quiet : s.signals = []) (acted : handle g s = u) :
    Settles 1 (raise g s) u := by
  refine Settles.last (g := g) (by simp [raise, quiet]) ?_
  rw [← acted, raise, ← quiet]

section AtHead

variable {s : State} {p : Port} {t : Tag} {k : Byte} {b : List Byte} {w : Writing}

theorem taken_setSlot (s : State) (p : Port) (t : Tag) (x y : TagSlot) (u : State) (taken : u.ports = s.taken p t x) :
    (u.setSlot p t y).ports = s.taken p t y := by
  simp [State.setSlot, State.setPort, HostPort.setSlot, State.port, taken, State.taken]

theorem taken_slot (s : State) (p : Port) (t : Tag) (x : TagSlot) (u : State) (taken : u.ports = s.taken p t x) :
    u.slot p t = x := by
  simp [State.slot, HostPort.slot, State.port, taken, State.taken]

/-- The request joins the empty queue, and the head is to be evaluated (R16, R17). -/
theorem takeRequest_writing (h : Ready s p t) (gate : GateOpen s p) (empty : s.adu.queue = []) (len : b.length ≤ 2040)
    (parsed : parseRequest k.toNat b = some (.writing w)) :
    takeRequest p t k b s = raise .head (s.queuing p t k b w) := by
  have slot : (s.receiving p t k b).slot p t = TagSlot.dispatch k b := taken_slot s p t _ _ rfl
  have ports : ((s.receiving p t k b).setTagState p t .queued).ports = s.taken p t (TagSlot.queued k b) := by
    rw [State.setTagState, slot]
    exact taken_setSlot s p t _ _ _ rfl
  rw [takeRequest_served h len parsed fun _ => gate]
  change joinQueue p t w (s.receiving p t k b) = _
  have queue : (s.receiving p t k b).adu.queue = [] := empty
  rw [joinQueue, if_pos queue, State.queuing, ← ports, State.setQueue, queue]
  rfl

/-- The step of such a request begins with the evaluation of the head. -/
theorem settles_writing (h : Ready s p t) (gate : GateOpen s p) (empty : s.adu.queue = []) (len : b.length ≤ 2040)
    (parsed : parseRequest k.toNat b = some (.writing w)) :
    Settles 1 (takeRequest p t k b s) (evalHead (s.queuing p t k b w)) := by
  rw [takeRequest_writing h gate empty len parsed]
  exact Settles.raised h.1.1.2 rfl

/-- The tests at the head do not look at the ports or the queue. -/
theorem verdict_queuing (s : State) (p q : Port) (t : Tag) (k : Byte) (b : List Byte) (w v : Writing) :
    (s.queuing p t k b w).verdict q v = s.verdict q v := by
  cases v <;> rfl

/-- The request that a test refuses at the head: one reply, and nothing else has changed. -/
theorem finish_takeRequest_refused (h : Ready s p t) (gate : GateOpen s p) (empty : s.adu.queue = []) (len : b.length ≤ 2040)
    (parsed : parseRequest k.toNat b = some (.writing w)) {st : Status} (verdict : s.verdict p w = .refused st) :
    finish (takeRequest p t k b s) =
      .next (driveInhibit { s with ports := s.answered p t k st .empty (s.marksFor k) }) := by
  have evaluated : evalHead (s.queuing p t k b w) = { s with ports := s.answered p t k st .empty (s.marksFor k) } := by
    have replied := reply_of_taken (k := k) h st .empty ((s.queuing p t k b w).setQueue []) (TagSlot.queued k b) rfl rfl rfl
      TagState.noConfusion rfl
    rw [evalHead_refused (e := s.entry p t w) rfl ((verdict_queuing s p p t k b w w).trans verdict)]
    refine (evalNext_empty ?_).trans (replied.trans ?_)
    · simp [State.setQueue]
    · simp [State.setQueue, State.queuing, ← empty]
  have run := settles_writing h gate empty len parsed
  rw [evaluated] at run
  exact finish_of_settles run h.1.1.2

end AtHead

/-- Settles O23: the verdict at the head is the refusal of Table 2-3, and a refusal is one reply. -/
theorem writingRefused : Obligations.WritingRefused := by
  intro s p t k b w st h gate empty len parsed refused
  rw [exec_requestCommand]
  exact finish_takeRequest_refused h gate empty len parsed (State.verdict_refused refused)

/-! Admissions at the head of an empty queue: a record that fits the open block, a sync APPEND and a SYNC (R22 to R24, R28, R31
to R33). -/

/-! ## Payloads -/

theorem toStream_val (x : StreamId) : toStream x.val = some x := by simp [toStream]

theorem natAt_one_byte (n : Nat) (rest : List Byte) (fits : n < 256) : natAt 0 1 (BitVec.ofNat 8 n :: rest) = n :=
  natAt_beBytes_append 1 n rest fits

/-- The payload of an APPEND (R181). -/
abbrev appendPayload (x : StreamId) (flags : Byte) (d : List Byte) : List Byte :=
  [BitVec.ofNat 8 x.val, flags] ++ beBytes 2 d.length ++ d

theorem length_appendPayload (x : StreamId) (flags : Byte) {d : List Byte} (short : d.length ≤ 2000) :
    (appendPayload x flags d).length ≤ 2040 := by
  simp [appendPayload]
  omega

theorem parse_append (x : StreamId) (flags : Byte) {d : List Byte} (short : d.length ≤ 2000) :
    parseRequest (1 : Byte).toNat (appendPayload x flags d) = some (.writing (.append x (flags.getLsbD 0) d.length)) := by
  have stream : natAt 0 1 (appendPayload x flags d) = x.val := natAt_one_byte _ _ (by omega)
  have len : natAt 2 2 (appendPayload x flags d) = d.length := by
    rw [appendPayload, List.append_assoc, natAt_append_right _ _ _ _ (Nat.le_refl 2)]
    exact natAt_beBytes_append 2 _ _ (by omega)
  have total : (appendPayload x flags d).length = 4 + d.length := by
    simp [appendPayload]
    omega
  change parseAppend (appendPayload x flags d) = _
  simp only [parseAppend, stream, len, total, toStream_val]
  rw [if_pos ⟨trivial, short⟩]
  rfl

theorem data_append (x : StreamId) (flags : Byte) (d : List Byte) :
    (TagSlot.queued 1 (appendPayload x flags d)).data d.length = d := by
  simp [TagSlot.queued, TagSlot.dispatch, TagSlot.data, slice, beBytes]

theorem parse_stream (f : StreamId → Request) (x : StreamId) : parseStream f [BitVec.ofNat 8 x.val] = some (f x) := by
  simp [parseStream, natAt_one_byte x.val [] (by omega), toStream_val]

/-! ## Placing the record (R22) -/

/-- The state in which the request at the head is admitted: it has left the queue, and its tag is QUEUED. -/
def State.admitting (s : State) (p : Port) (t : Tag) (k : Byte) (b : List Byte) : State :=
  { s with ports := s.taken p t (TagSlot.queued k b) }

/-- A record placed in the open block; the next RSN follows its RSN (R22, R27). -/
def State.withRecord (s : State) (r : Record) : State :=
  { s with
    adu := { s.adu with nextRsn := some (r.rsn + 1) }
    pool := { s.pool with opened := s.pool.opened.map fun o => o.place r } }

theorem placeNew_fits {r : Record} {s : State} (fits : s.needsBlock (footprint r.payload.length) = false) :
    placeNew r s = s.withRecord r := by
  rw [placeNew, fits]
  rfl

/-- A record that is not the first of its block (R42). -/
theorem OpenBlock.place_later {o : OpenBlock} (r : Record) (later : 0 < o.count) :
    o.place r = { o with
      records := o.records ++ [r], count := o.count + 1, fill := o.fill + footprint r.payload.length } := by
  simp [OpenBlock.place, Nat.ne_of_gt later]

/-- A record that fits the open block needs no other. -/
theorem needsBlock_fits {s : State} {o : OpenBlock} {foot : Nat} (opened : s.pool.opened = some o)
    (fits : o.fill + foot ≤ 2016) : s.needsBlock foot = false := by
  rw [← Bool.not_eq_true, State.needsBlock_iff]
  intro all
  have := all o opened
  omega

theorem rsnExhausted_of_lt {s : State} {r : Nat} (next : s.adu.nextRsn = some r) (lt : r < 281474976710656) :
    s.rsnExhausted = false := by
  rw [← Bool.not_eq_true, State.rsnExhausted_iff]
  intro all
  have := all r next
  omega

theorem spaceTest_fits {s : State} {foot r : Nat} (margin : Int) (fits : s.needsBlock foot = false)
    (next : s.adu.nextRsn = some r) (lt : r < 281474976710656) : s.spaceTest foot margin = .granted := by
  simp [State.spaceTest, fits, rsnExhausted_of_lt next lt]

/-! ## The verdict on a request that no claim stops -/

theorem heldByOther_free {holder : Option Port} {p : Port} (free : ∀ q, q ≠ p → holder ≠ some q) :
    heldByOther holder p = false := by
  rw [← Bool.not_eq_true, heldByOther_iff]
  rintro ⟨q, other, held⟩
  exact free q other held

theorem kindTest_append {s : State} {p : Port} {x : StreamId} (sync : Bool) (len : Nat) (opened : (s.stream x).isOpen = true)
    (free : Unclaimed s p x) : s.kindTest p (.append x sync len) = none := by
  simp [State.kindTest, opened, heldByOther_free fun q other => (free q other).1,
    heldByOther_free fun q other => (free q other).2]

theorem verdict_eq_spaceTest {s : State} {p : Port} {w : Writing} (ready : s.vom.state = .ready)
    (kind : s.kindTest p w = none) : s.verdict p w = s.spaceTest w.foot w.margin := by
  simp [State.verdict, State.volumeRefusal, ready, kind]

section Admission

variable {s : State} {p : Port} {t : Tag} {k : Byte} {b : List Byte} {w : Writing} {r : Nat}

theorem queuing_setQueue_nil (empty : s.adu.queue = []) :
    (s.queuing p t k b w).setQueue [] = s.admitting p t k b := by
  simp [State.queuing, State.setQueue, State.admitting, ← empty]

/-- An admitted request leaves the empty queue behind (R22). -/
theorem evalHead_admits (empty : s.adu.queue = []) (verdict : s.verdict p w = .granted) :
    evalHead (s.queuing p t k b w) = evalNext (admission p t w (s.admitting p t k b)) := by
  rw [evalHead_granted (e := s.entry p t w) rfl ((verdict_queuing s p p t k b w w).trans verdict), queuing_setQueue_nil empty]
  rfl

theorem admission_record (next : s.adu.nextRsn = some r) (record : w ≠ .sync) :
    admission p t w s = afterRecord p t w r (placeNew (s.recordFor p t w r) s) := by
  cases w with
  | sync => exact absurd rfl record
  | append _ _ _ | setClock _ | openStream _ | closeStream _ => simp only [admission, next, Option.getD_some]

/-- The state in which a record that is not the first of its block stands in the open block, its request still without
answer. -/
def State.recorded (s : State) (p : Port) (t : Tag) (k : Byte) (b : List Byte) (o : OpenBlock) (r : Record) (foot : Nat) :
    State :=
  { s with
    ports := s.taken p t (TagSlot.queued k b)
    adu := { s.adu with nextRsn := some (r.rsn + 1) }
    pool := { s.pool with opened := some { o with
      records := o.records ++ [r], count := o.count + 1, fill := o.fill + foot } } }

/-- The step of a request whose record fits the open block, up to what the admission does beside its record. -/
theorem settles_admitted (h : AtHead s p t) (len : b.length ≤ 2040) (parsed : parseRequest k.toNat b = some (.writing w))
    (isRecord : w ≠ .sync) (kind : s.kindTest p w = none) {o : OpenBlock} (opened : s.pool.opened = some o)
    (later : 0 < o.count) {foot : Nat} (size : w.foot = foot) (fits : o.fill + foot ≤ 2016)
    (next : s.adu.nextRsn = some r) (lt : r < 281474976710656) {record : Record}
    (makes : (s.admitting p t k b).recordFor p t w r = record)
    (length : footprint record.payload.length = foot) :
    Settles 1 (takeRequest p t k b s) (evalNext (afterRecord p t w r (s.recorded p t k b o record foot))) := by
  obtain ⟨ready, gate, empty, state⟩ := h
  have room : s.needsBlock foot = false := needsBlock_fits opened fits
  have verdict : s.verdict p w = .granted := by
    rw [verdict_eq_spaceTest state kind, size]
    exact spaceTest_fits _ room next lt
  have placed : placeNew record (s.admitting p t k b) = s.recorded p t k b o record foot := by
    rw [placeNew_fits (s := s.admitting p t k b) (length.symm ▸ room), State.withRecord,
      show (s.admitting p t k b).pool.opened = some o from opened, Option.map_some, OpenBlock.place_later record later, length]
    rfl
  have run := settles_writing ready gate empty len parsed
  rwa [evalHead_admits empty verdict, admission_record (s := s.admitting p t k b) next isRecord, makes, placed] at run

/-- The reply of an admission: one frame, in a state in which the ports are as they were when the request was taken. -/
theorem finish_admitted {u : State} (h : AtHead s p t) (st : Status) (body : ReplyBody)
    (run : Settles 1 (takeRequest p t k b s) (evalNext (reply p t st body u)))
    (ports : u.ports = s.taken p t (TagSlot.queued k b)) (low : u.low = s.low) (clock : u.adu.clock = s.adu.clock)
    (queue : u.adu.queue = []) (quiet : u.signals = []) :
    finish (takeRequest p t k b s) =
      .next (driveInhibit { u with ports := s.answered p t k st body (s.marksFor k) }) := by
  rw [evalNext_empty (by simpa using queue),
    reply_of_taken h.1 st body u _ ports low clock TagState.noConfusion rfl] at run
  exact finish_of_settles run quiet

end Admission

/-! ## APPEND into the open block -/

/-- The record of an APPEND carries the bytes of its frame (R22). -/
theorem recordFor_append (s : State) (p : Port) (t : Tag) (x : StreamId) (flags : Byte) (d : List Byte) (sync : Bool) (r : Nat) :
    (s.admitting p t 1 (appendPayload x flags d)).recordFor p t (.append x sync d.length) r =
      stampRecord s .data x.val p.val sync d r := by
  have slot : (s.admitting p t 1 (appendPayload x flags d)).slot p t = TagSlot.queued 1 (appendPayload x flags d) :=
    taken_slot s p t _ _ rfl
  rw [State.recordFor, slot, data_append]
  rfl

/-- Settles O24: the request is admitted into the open block and answered at once. -/
theorem appendAdmitted : Obligations.AppendAdmitted := by
  intro s p t x flags d o r h isOpen free noSync short opened later fits next lt
  have parsed := parse_append x flags short
  rw [noSync] at parsed
  have run := settles_admitted (k := 1) h (length_appendPayload x flags short) parsed Writing.noConfusion
    (kindTest_append false d.length isOpen free) opened later rfl fits next lt (recordFor_append s p t x flags d false r) rfl
  exact finish_admitted h .done (.rsn (some r)) run rfl rfl rfl h.2.2.1 h.1.1.1.2

/-! ## OPEN_STREAM and CLOSE_STREAM -/

/-- An OPEN_STREAM of an OPEN stream is answered ALREADY at the head (R32). -/
theorem finish_takeRequest_already {s : State} {p : Port} {t : Tag} {k : Byte} {b : List Byte} {w : Writing}
    (h : AtHead s p t) (notAppend : k ≠ 1) (len : b.length ≤ 2040) (parsed : parseRequest k.toNat b = some (.writing w))
    (verdict : s.verdict p w = .already) :
    finish (takeRequest p t k b s) =
      .next (driveInhibit { s with ports := s.answered p t k .done .empty { s.marks with already := true } }) := by
  obtain ⟨ready, gate, empty, state⟩ := h
  have other : (k == 1) = false := beq_false_of_ne notAppend
  have replied : replyWith p t .done .empty true false (s.admitting p t k b) =
      { s with ports := s.answered p t k .done .empty { s.marks with already := true } } := by
    rw [replyWith_taken p t .done .empty true false s _ (TagSlot.queued k b) rfl ready TagState.noConfusion]
    have kind : ((TagSlot.queued k b).kindByte == 1) = false := other
    rw [kind]
    rfl
  have run := settles_writing ready gate empty len parsed
  rw [evalHead_already (e := s.entry p t w) rfl ((verdict_queuing s p p t k b w w).trans verdict),
    queuing_setQueue_nil empty] at run
  change Settles 1 _ (evalNext (replyWith p t .done .empty true false (s.admitting p t k b))) at run
  rw [replied, evalNext_empty (by exact empty)] at run
  exact finish_of_settles run ready.1.1.2

/-- The distance of the stream's last RSN, 0 where it has none (R10). -/
theorem closePayload_eq (e : StreamEntry) (rsn : Nat) :
    closePayload e rsn = beBytes 4 e.count ++ beBytes 4 (match e.lastRsn with
      | none => 0
      | some l => rsn - l) := by
  unfold closePayload
  cases e.lastRsn <;> rfl

/-- Settles O30: a stream's record fits the open block, and its entry changes behind the record. -/
theorem streamRequests : Obligations.StreamRequests := by
  intro s p t x o r h free opened later next lt
  have volume : heldByOther s.srt.volume p = false := heldByOther_free free
  refine ⟨fun closed fits => ?_, fun isOpen => ?_, fun isOpen holder fits => ?_⟩
  · have parsed : parseRequest (4 : Byte).toNat [BitVec.ofNat 8 x.val] = some (.writing (.openStream x)) :=
      parse_stream (fun s => .writing (.openStream s)) x
    have run := settles_admitted (k := 4) h (by simp) parsed Writing.noConfusion
      (by simp [State.kindTest, volume, closed]) opened later (foot := 16) rfl fits next lt rfl
      (by simp [State.recordFor, stampRecord, footprint])
    rw [← s.marksFor_of_ne (k := 4) (by decide)]
    exact finish_admitted h .done (.rsn (some r)) run rfl rfl rfl h.2.2.1 h.1.1.1.2
  · have parsed : parseRequest (4 : Byte).toNat [BitVec.ofNat 8 x.val] = some (.writing (.openStream x)) :=
      parse_stream (fun s => .writing (.openStream s)) x
    have verdict : s.verdict p (.openStream x) = .already := by
      simp [State.verdict, State.volumeRefusal, h.2.2.2, State.kindTest, volume, isOpen]
    exact finish_takeRequest_already (k := 4) h (by decide) (by simp) parsed verdict
  · have parsed : parseRequest (5 : Byte).toNat [BitVec.ofNat 8 x.val] = some (.writing (.closeStream x)) :=
      parse_stream (fun s => .writing (.closeStream s)) x
    have run := settles_admitted (k := 5) h (by simp) parsed Writing.noConfusion
      (by simp [State.kindTest, volume, isOpen, heldByOther_free holder]) opened later (foot := 24) rfl fits next lt
      (congrArg (fun d => stampRecord s .streamClose x.val p.val false d r) (closePayload_eq (s.stream x) r))
      (by simp [stampRecord, footprint])
    rw [← s.marksFor_of_ne (k := 5) (by decide)]
    exact finish_admitted h .done (.rsn (some r)) run rfl rfl rfl h.2.2.1 h.1.1.1.2

/-! Requests that wait on a block: a sync APPEND, and SYNC (R24, R28, R51); the seal timer (R43). -/

/-! ## Reports that find nothing to do -/

/-- Reports that change nothing are acted on one after the other. -/
theorem settles_inert {s : State} (inert : ∀ g ∈ s.signals, handle g { s with signals := [] } = { s with signals := [] }) :
    Settles s.signals.length s { s with signals := [] } := by
  generalize queue : s.signals = signals at inert
  induction signals generalizing s with
  | nil => exact (show { s with signals := [] } = s by rw [← queue]) ▸ Settles.refl s
  | cons g rest ih =>
    have one := Settles.report queue (inert g List.mem_cons_self)
    exact one.trans (ih (s := { s with signals := rest }) rfl fun g' mem => inert g' (List.mem_cons_of_mem g mem))

/-- A step that leaves only reports of work for an engine in the middle of a write. -/
theorem finish_midWrite {j : Nat} {s u : State} (run : Settles j s u) (mid : MidWrite u)
    (starts : ∀ g ∈ u.signals, g = .arrival ∨ g = .startCheck) (few : u.signals.length + j ≤ 4096) :
    finish s = .next (driveInhibit { u with signals := [] }) := by
  have idle : MidWrite { u with signals := [] } := mid
  refine finish_of_settles (run.trans (settles_inert fun g mem => ?_)) rfl few
  obtain rfl | rfl := starts g mem
  · exact engineStart_midWrite idle
  · exact engineStart_midWrite idle

/-! ## Waiters (R51) -/

theorem mapBlocks_fixed {f : Block → Block} {s : State} (fixed : ∀ b ∈ s.writtenBlocks, f b = b) : s.mapBlocks f = s := by
  simp only [State.writtenBlocks, List.mem_append, List.mem_map, Option.mem_toList] at fixed
  have sealed : s.pool.sealed.map f = s.pool.sealed :=
    (List.map_congr_left fun b mem => fixed b (.inr mem)).trans (List.map_id' _)
  have unverified : (s.ape.unverified.map fun u => { u with block := f u.block }) = s.ape.unverified := by
    refine (List.map_congr_left fun u mem => ?_).trans (List.map_id _)
    rw [fixed u.block (.inl (.inl ⟨u, mem, rfl⟩))]
    rfl
  have inWrite : (s.ape.inWrite.map fun w => { w with block := f w.block }) = s.ape.inWrite := by
    cases writing : s.ape.inWrite with
    | none => rfl
    | some w => rw [Option.map_some, fixed w.block (.inl (.inr ⟨w, writing, rfl⟩))]
  rw [State.mapBlocks, sealed, unverified, inWrite]

/-- A block with one waiter more at the tail of its list. -/
def Block.joined (n : Nat) (p : Port) (t : Tag) (b : Block) : Block :=
  if b.bsn = n then { b with waiters := b.waiters ++ [(p, t)] } else b

/-- A waiter joins a list; the engine may be told (R51, R77). -/
theorem joinWaiters_eq (n : Nat) (p : Port) (t : Tag) (s : State) :
    ∃ reports, joinWaiters n p t s = { s.mapBlocks (Block.joined n p t) with signals := s.signals ++ reports } ∧
      reports.length ≤ 1 ∧ ∀ g ∈ reports, g = .startCheck := by
  unfold joinWaiters
  dsimp only
  split
  · exact ⟨[.startCheck], rfl, Nat.le_refl 1, fun g mem => List.mem_singleton.mp mem⟩
  · exact ⟨[], by rw [List.append_nil]; rfl, Nat.zero_le 1, fun g mem => (List.not_mem_nil mem).elim⟩

/-- The waiter of the block sealed last, when no other staged block has its BSN. -/
theorem mapBlocks_sealedWith {s : State} {o : OpenBlock} {n : Nat} (cause : SealCause) (p : Port) (t : Tag)
    (next : s.pool.nextBsn = some n) (fresh : ∀ b ∈ s.writtenBlocks, b.bsn ≠ n) :
    (s.sealedWith cause o).mapBlocks (Block.joined n p t) = { s with pool := { s.pool with
      opened := none, nextBsn := some (n + 1)
      sealed := s.pool.sealed ++ [{ sealedBlock o cause n (s.vom.session.getD 0) (s.vom.serial.getD 0) s.params.startAge with
        waiters := [(p, t)] }] } } := by
  have others : s.mapBlocks (Block.joined n p t) = s := mapBlocks_fixed fun b mem => if_neg (fresh b mem)
  have sealed : s.pool.sealed.map (Block.joined n p t) = s.pool.sealed := congrArg (fun u => u.pool.sealed) others
  have unverified : (s.ape.unverified.map fun u => { u with block := Block.joined n p t u.block }) = s.ape.unverified :=
    congrArg (fun u => u.ape.unverified) others
  have inWrite : (s.ape.inWrite.map fun w => { w with block := Block.joined n p t w.block }) = s.ape.inWrite :=
    congrArg (fun u => u.ape.inWrite) others
  have block : Block.joined n p t
      (sealedBlock o cause n (s.vom.session.getD 0) (s.vom.serial.getD 0) s.params.startAge) =
      { sealedBlock o cause n (s.vom.session.getD 0) (s.vom.serial.getD 0) s.params.startAge with waiters := [(p, t)] } :=
    if_pos rfl
  rw [State.mapBlocks, State.sealedWith]
  simp only [next, Option.getD_some, List.map_append, sealed, List.map_singleton, block, unverified, inWrite]

/-- The ports after a tag has become a waiter with its recorded RSN (R165). -/
def State.waiting (s : State) (p : Port) (t : Tag) (r : Nat) : Vector HostPort 4 :=
  (s.setSlot p t { s.slot p t with state := .waitingDurable, rsn := some r }).ports

theorem waiting_taken {s u : State} {p : Port} {t : Tag} {k : Byte} {b : List Byte}
    (taken : u.ports = s.taken p t (TagSlot.queued k b)) (r : Nat) :
    u.waiting p t r = s.taken p t {
      state := .waitingDurable, rsn := some r, reply := none, frame := some { kind := k, payload := b } } := by
  rw [State.waiting, taken_slot s p t _ u taken]
  exact taken_setSlot s p t _ _ u taken

/-- A request waits on a staged block, and the engine in the middle of its write has nothing to do for it. -/
theorem finish_waits {j : Nat} {s u : State} {p : Port} {t : Tag} {r n : Nat}
    (run : Settles j s (evalNext (makeWaiter p t r n u))) (mid : MidWrite u)
    (starts : ∀ g ∈ u.signals, g = .arrival ∨ g = .startCheck) (few : u.signals.length + 1 + j ≤ 4096)
    (queue : u.adu.queue = []) :
    finish s = .next (driveInhibit { u.mapBlocks (Block.joined n p t) with
      ports := u.waiting p t r, signals := [] }) := by
  obtain ⟨reports, joined, one, only⟩ := joinWaiters_eq n p t
    (u.setSlot p t { u.slot p t with state := .waitingDurable, rsn := some r })
  rw [makeWaiter, joined, evalNext_empty (by exact queue)] at run
  obtain ⟨running, writing, noYield⟩ := mid
  refine finish_midWrite run ⟨running, ?_, noYield⟩ ?_ ?_
  · simpa [State.mapBlocks] using writing
  · intro g mem
    rcases List.mem_append.mp mem with mem | mem
    · exact starts g mem
    · exact .inr (only g mem)
  · simp only [List.length_append, State.setSlot_signals]
    omega

/-- The open block is sealed, and a request waits on it. -/
theorem finish_seals_and_waits {j : Nat} {s u : State} {p : Port} {t : Tag} {r n : Nat} {o : OpenBlock}
    (run : Settles j s (evalNext (makeWaiter p t r (sealBlock .sync u).lastBsn (sealBlock .sync u))))
    (opened : u.pool.opened = some o) (same : u.vom.remaining = u.remainingNow) (next : u.pool.nextBsn = some n)
    (fresh : ∀ b ∈ u.writtenBlocks, b.bsn ≠ n) (mid : MidWrite u) (quiet : u.signals = []) (queue : u.adu.queue = [])
    (few : 2 + j ≤ 4096) :
    finish s = .next (driveInhibit { u with
      ports := u.waiting p t r
      pool := { u.pool with
        opened := none, nextBsn := some (n + 1)
        sealed := u.pool.sealed ++ [{ sealedBlock o .sync n (u.vom.session.getD 0) (u.vom.serial.getD 0) u.params.startAge with
          waiters := [(p, t)] }] } }) := by
  have last : (sealBlock .sync u).lastBsn = n := by
    rw [sealBlock_open .sync opened same]
    simp [State.lastBsn, raise, State.sealedWith, next]
  rw [last, sealBlock_open .sync opened same] at run
  have waits := finish_waits (u := raise .arrival (u.sealedWith .sync o)) run mid
    (fun g mem => .inl (by simpa [raise, State.sealedWith, quiet] using mem))
    (by simpa [raise, State.sealedWith, quiet] using few) queue
  have staged := mapBlocks_sealedWith (o := o) .sync p t next fresh
  refine waits.trans ?_
  have final : { (u.sealedWith .sync o).mapBlocks (Block.joined n p t) with ports := u.waiting p t r, signals := [] } =
      { u with
        ports := u.waiting p t r
        pool := { u.pool with
          opened := none, nextBsn := some (n + 1)
          sealed := u.pool.sealed ++
            [{ sealedBlock o .sync n (u.vom.session.getD 0) (u.vom.serial.getD 0) u.params.startAge with
              waiters := [(p, t)] }] } } := by
    rw [staged, ← quiet]
  exact congrArg (fun v => Host.Outcome.next (driveInhibit v)) final

/-! ## APPEND with the sync flag, and SYNC -/

/-- Settles O27: the record is placed, its block sealed, and the request joins that block's list. -/
theorem syncAppendWaits : Obligations.SyncAppendWaits := by
  intro s p t x flags d o o' r n m h isOpen free sync short opened later fits next lt nextBsn fresh now mid sealed
  have parsed := parse_append x flags short
  rw [sync] at parsed
  have run := settles_admitted (k := 1) h (length_appendPayload x flags short) parsed Writing.noConfusion
    (kindTest_append true d.length isOpen free) opened later rfl fits next lt (recordFor_append s p t x flags d true r) rfl
  have same : s.vom.remaining = (s.recorded p t 1 (appendPayload x flags d) o
      (stampRecord s .data x.val p.val true d r) ((16 + d.length + 7) / 8 * 8)).remainingNow := by
    rw [now.1, ← now.2]
    simp [State.remainingNow, State.recorded, opened]
  subst sealed
  rw [← waiting_taken (u := countRecord x r (s.recorded p t 1 (appendPayload x flags d) o
      (stampRecord s .data x.val p.val true d r) ((16 + d.length + 7) / 8 * 8))) rfl r]
  exact finish_seals_and_waits run rfl same nextBsn fresh mid h.1.1.1.2 h.2.2.1 (by decide)

/-- A SYNC at the head is admitted whatever is staged (R28). -/
theorem settles_sync {s : State} {p : Port} {t : Tag} (h : AtHead s p t) :
    Settles 1 (takeRequest p t 2 [] s) (evalNext (admitSync p t (s.admitting p t 2 []))) := by
  obtain ⟨ready, gate, empty, state⟩ := h
  have verdict : s.verdict p .sync = .granted := by simp [State.verdict, State.volumeRefusal, state, State.kindTest]
  have run := settles_writing (k := 2) (w := .sync) ready gate empty (b := []) (Nat.zero_le _) rfl
  rwa [evalHead_admits empty verdict] at run

/-- A SYNC whose target is not durable waits (R28). -/
theorem admitSync_waits {s : State} (p : Port) (t : Tag) (volatile : (sealBlock .sync s).durable
    (sealBlock .sync s).lastBsn = false) :
    admitSync p t s = makeWaiter p t ((sealBlock .sync s).adu.nextRsn.getD 0 - 1) (sealBlock .sync s).lastBsn
      (sealBlock .sync s) :=
  if_neg (by simp [volatile])

theorem durable_below {s : State} {n : Nat} (below : ∀ d, s.vom.frontier = some d → d < n) : s.durable n = false := by
  cases frontier : s.vom.frontier with
  | none => simp [State.durable, frontier]
  | some d => simpa [State.durable, frontier] using below d frontier

/-- Settles O28: the target is the block sealed last, by the request itself where one is open. -/
theorem syncRequest : Obligations.SyncRequest := by
  intro s p t r n h next
  have run := settles_sync h
  have quiet : s.signals = [] := h.1.1.1.2
  refine ⟨fun closed nextBsn ⟨d, frontier, covered⟩ => ?_, fun closed nextBsn below mid => ?_,
    fun o m opened nextBsn below fresh now mid => ?_⟩
  · have last : (s.admitting p t 2 []).lastBsn = n := by simp [State.lastBsn, State.admitting, nextBsn]
    have durable : (s.admitting p t 2 []).durable n = true := by
      simp [State.durable, State.admitting, frontier, covered]
    have answered : admitSync p t (s.admitting p t 2 []) = reply p t .done (.durable r n none) (s.admitting p t 2 []) := by
      rw [admitSync, sealBlock_none .sync (s := s.admitting p t 2 []) closed, last, if_pos durable]
      simp [State.admitting, next]
    rw [answered] at run
    rw [← s.marksFor_of_ne (k := 2) (by decide)]
    exact finish_admitted (u := s.admitting p t 2 []) h .done (.durable r n none) run rfl rfl rfl h.2.2.1 quiet
  · have last : (s.admitting p t 2 []).lastBsn = n := by simp [State.lastBsn, State.admitting, nextBsn]
    have stays := sealBlock_none .sync (s := s.admitting p t 2 []) closed
    rw [admitSync_waits p t (by rw [stays, last]; exact durable_below below), stays, last] at run
    have covered : (s.admitting p t 2 []).adu.nextRsn.getD 0 - 1 = r := by simp [State.admitting, next]
    rw [covered] at run
    rw [← waiting_taken (u := s.admitting p t 2 []) rfl r]
    refine (finish_waits run mid (by simp [State.admitting, quiet]) (by simp [State.admitting, quiet]) h.2.2.1).trans ?_
    rw [← quiet]
    rfl
  · have openedNow : (s.admitting p t 2 []).pool.opened = some o := opened
    have same : (s.admitting p t 2 []).vom.remaining = (s.admitting p t 2 []).remainingNow := now.1.trans now.2.symm
    have last : (sealBlock .sync (s.admitting p t 2 [])).lastBsn = n := by
      rw [sealBlock_open .sync openedNow same]
      simp [State.lastBsn, raise, State.sealedWith, State.admitting, nextBsn]
    have covered : (sealBlock .sync (s.admitting p t 2 [])).adu.nextRsn.getD 0 - 1 = r := by
      simp [State.admitting, next]
    have volatile : (sealBlock .sync (s.admitting p t 2 [])).durable n = false :=
      durable_below (by simpa [State.admitting] using below)
    rw [admitSync_waits p t (last.symm ▸ volatile), covered] at run
    rw [← waiting_taken (u := s.admitting p t 2 []) rfl r]
    exact finish_seals_and_waits run opened same nextBsn fresh mid quiet h.2.2.1 (by decide)

/-! ## The seal timer (R43) -/

/-- Settles O35: a running seal timer seals the open block, and the engine is in the middle of its write. -/
theorem sealTimer : Obligations.SealTimer := by
  intro s quiet
  refine ⟨fun o f n ses ser m opened timer first next session serial now mid => ?_, fun stopped => ?_⟩
  · have running : (s.pool.opened.bind fun o => o.sealTimer).isSome = true := by
      simpa [opened, Option.isSome_iff_ne_none] using timer
    have same : s.vom.remaining = s.remainingNow := now.1.trans now.2.symm
    change finish (sealExpired s) = _
    rw [sealExpired, if_pos running, sealBlock_open .timer opened same]
    refine (finish_midWrite (.refl _) (u := raise .arrival (s.sealedWith .timer o)) mid ?_ ?_).trans ?_
    · exact fun g mem => .inl (by simpa [raise, State.sealedWith, quiet] using mem)
    · simp [raise, State.sealedWith, quiet]
    · simp [raise, State.sealedWith, sealedBlock, next, session, serial, first, ← quiet]
  · have idle : ¬(s.pool.opened.bind fun o => o.sealTimer).isSome = true := by
      cases opened : s.pool.opened with
      | none => simp
      | some o => simp [stopped o opened]
    change finish (sealExpired s) = _
    rw [sealExpired, if_neg idle]
    exact finish_quiet s quiet

/-! The journal clock, the parameters, and the events of a host link (R30, R159, R162 to R164, R171, R174, R175). -/

/-- The end of a step that leaves no report. -/
theorem finish_of_eq {s t : State} (eq : s = t) (quiet : t.signals = []) : finish s = .next (driveInhibit t) :=
  eq ▸ finish_quiet t quiet

/-! ## The journal clock (R30) -/

/-- Settles O33: the minimum of the model is the case split of the statement. -/
theorem clockTick : Obligations.ClockTick := by
  intro s quiet
  have counts (c : Nat) : min (c + 1) Config.clockMax = if c < 281474976710655 then c + 1 else 281474976710655 := by
    rw [show Config.clockMax = 281474976710655 from rfl]
    split <;> omega
  change finish (tickClock s) = _
  rw [finish_quiet (tickClock s) quiet]
  simp only [tickClock, counts]

/-! ## SET_PARAMETERS accepted (R174, R175) -/

/-- A pair changes the value of its own identifier. -/
theorem Params.value_set (q : Params) {id v : Nat} (known : 1 ≤ id ∧ id ≤ 9) (j : Nat) (listed : 1 ≤ j ∧ j ≤ 9) :
    (q.set id v).value j = if j = id then some v else q.value j := by
  obtain ⟨low, high⟩ := known
  obtain ⟨first, last⟩ := listed
  interval_cases id <;> interval_cases j <;> rfl

/-- A list of pairs with distinct identifiers sets the values it names and no others. -/
theorem Params.value_apply {pairs : List (Nat × Nat)} (q : Params) (known : ∀ x ∈ pairs, 1 ≤ x.1 ∧ x.1 ≤ 9)
    (distinct : (pairs.map fun x => x.1).Nodup) {j : Nat} (listed : 1 ≤ j ∧ j ≤ 9) :
    (∀ v, (j, v) ∈ pairs → (q.apply pairs).value j = some v) ∧
      ((∀ v, (j, v) ∉ pairs) → (q.apply pairs).value j = q.value j) := by
  induction pairs generalizing q with
  | nil => exact ⟨fun v mem => (List.not_mem_nil mem).elim, fun _ => rfl⟩
  | cons x pairs ih =>
    obtain ⟨id, w⟩ := x
    obtain ⟨fresh, distinct⟩ := List.nodup_cons.mp distinct
    obtain ⟨named, unnamed⟩ := ih (q.set id w) (fun y mem => known y (List.mem_cons_of_mem _ mem)) distinct
    have first := q.value_set (v := w) (known (id, w) List.mem_cons_self) j listed
    constructor
    · intro v mem
      obtain eq | mem := List.mem_cons.mp mem
      · obtain ⟨rfl, rfl⟩ := Prod.mk.inj eq
        have once : ∀ u, (j, u) ∉ pairs := fun u again =>
          fresh (List.mem_map.mpr ⟨_, again, rfl⟩)
        exact (unnamed once).trans (first.trans (if_pos rfl))
      · exact named v mem
    · intro absent
      have other : j ≠ id := by
        rintro rfl
        exact absent w List.mem_cons_self
      exact (unnamed fun v mem => absent v (List.mem_cons_of_mem _ mem)).trans (first.trans (if_neg other))

/-- With no STARVED cursor a wake-up only uses up its free choice (R126). -/
theorem wakeStarved_idle {s : State} (none_ : ∀ q, (s.cursor q).phase ≠ .starved) : wakeStarved s = s.chosen := by
  have each : ∀ (ports : List Port) (u : State), u.cursors = s.cursors →
      ports.foldl (fun s p => if (s.cursor p).phase = .starved then fillCheck p s else s) u = u := by
    intro ports u same
    induction ports with
    | nil => rfl
    | cons p ports ih =>
      have awake : ¬(u.cursor p).phase = .starved := by
        rw [State.cursor, same]
        exact none_ p
      rw [List.foldl_cons, if_neg awake]
      exact ih
  exact each _ _ rfl

theorem evalLevel_idle {s : State} (idle : s.vom.counting = false) : evalLevel s = s := by
  unfold evalLevel
  split
  · rfl
  · rw [if_neg (by simp [idle])]

/-- The owners of the parameters have nothing to do (R175). -/
theorem applyParams_undisturbed {s : State} (pairs : List (Nat × Nat)) (none_ : ∀ q, (s.cursor q).phase ≠ .starved)
    (level : s.params.ewReserve ≠ (s.params.apply pairs).ewReserve →
      evalLevel { s with params := s.params.apply pairs } = { s with params := s.params.apply pairs }) :
    applyParams pairs s = { s with
      params := s.params.apply pairs
      choice := if (s.params.apply pairs).replayLimit = s.params.replayLimit ∧
        (s.params.apply pairs).stagingFloor = s.params.stagingFloor then s.choice else s.choice + 1 } := by
  have evaluated : (if s.params.ewReserve ≠ (s.params.apply pairs).ewReserve then
      evalLevel { s with params := s.params.apply pairs } else { s with params := s.params.apply pairs }) =
      { s with params := s.params.apply pairs } := by
    split_ifs with changed
    · exact level changed
    · rfl
  have woken : wakeStarved { s with params := s.params.apply pairs } =
      State.chosen { s with params := s.params.apply pairs } := wakeStarved_idle none_
  unfold applyParams
  dsimp only
  rw [evaluated, woken]
  by_cases same : (s.params.apply pairs).replayLimit = s.params.replayLimit ∧
      (s.params.apply pairs).stagingFloor = s.params.stagingFloor
  · rw [if_pos same, if_neg (not_or.mpr ⟨not_not_intro same.1.symm, not_not_intro same.2.symm⟩)]
  · have either := (not_and_or.mp same).imp Ne.symm Ne.symm
    rw [if_neg same, if_pos either]
    rfl

/-- Settles O13: the pairs are applied, and neither owner finds anything to do. -/
theorem setParametersApplied : Obligations.SetParametersApplied := by
  intro s p t b pairs h len parsed ranges distinct free awake level
  have good : pairsGood pairs = true := (pairsGood_iff pairs).mpr ⟨ranges, distinct⟩
  have known : ∀ x ∈ pairs, 1 ≤ x.1 ∧ x.1 ≤ 9 := by
    intro x mem
    obtain ⟨lo, hi, row, -⟩ := ranges x mem
    simp at row
    omega
  have values {j : Nat} (first : 1 ≤ j) (last : j ≤ 9) := s.params.value_apply known distinct ⟨first, last⟩
  refine ⟨s.params.apply pairs, ?_, fun id first last => values first last⟩
  have held : ¬heldByOther (s.receiving p t 14 b).srt.volume p = true := by
    rw [heldByOther_iff]
    rintro ⟨q, other, volume⟩
    exact free q other volume
  have undisturbed := applyParams_undisturbed (s := s.receiving p t 14 b) pairs awake fun changed => by
    have named : ∃ v, (5, v) ∈ pairs := by
      by_contra none_
      have same := (values (j := 5) (by decide) (by decide)).2 (not_exists.mp none_)
      exact changed (Option.some.inj same).symm
    obtain ⟨v, mem⟩ := named
    have reserve : (s.params.apply pairs).ewReserve = v :=
      Option.some.inj ((values (j := 5) (by decide) (by decide)).1 v mem)
    obtain idle | ⟨r, remaining, above, normal⟩ := level v mem
    · exact evalLevel_idle idle
    · rw [← reserve] at normal
      exact evalLevel_stays remaining ⟨above, normal⟩
  have served : serve p t (.setParameters pairs) (s.receiving p t 14 b) = reply p t .done (.params (s.params.apply pairs))
      (applyParams pairs (s.receiving p t 14 b)) := by
    rw [serve, setParameters, if_neg (by simp [good]), if_neg held, undisturbed]
    rfl
  rw [undisturbed] at served
  exact finish_takeRequest_replied (k := 14) h len parsed Bool.noConfusion .done _ _ served rfl rfl rfl h.1.1.2

/-! ## Frame errors (R163, R164) -/

/-- A frame error below the eighth in a row, at a port that has just heard a character. -/
theorem badFrame_hear {s : State} {p : Port} (clear : (s.port p).waiting = []) (few : (s.port p).errors < 7) :
    badFrame p (hear p s) = { s with
      ports := s.ports.set p { s.port p with up := true, activity := some 20, errors := (s.port p).errors + 1 } } := by
  have below : ¬8 ≤ (s.port p).errors + 1 := by omega
  rw [hear_clear p s clear, badFrame]
  simp [Config.errorLimit, below]
  rfl

/-- Settles O15: a request for a tag that is not IDLE, or one too long, is a frame error. -/
theorem frameErrors : Obligations.FrameErrors := by
  rintro s p ⟨⟨run, quiet⟩, clear⟩ few
  have counted := badFrame_hear clear few
  constructor
  · change finish (whenRunning (fun s => badFrame p (hear p s)) s) = _
    rw [whenRunning_running _ _ run, counted]
    exact finish_quiet _ quiet
  · intro t k b bad
    have rejected : ((hear p s).slot p t).state ≠ .idle ∨ Config.maxPayload < b.length := by
      rw [hear_clear p s clear]
      simpa [State.slot, HostPort.slot, Config.maxPayload] using bad
    rw [exec_requestCommand, takeRequest, whenRunning_running _ _ run]
    dsimp only
    rw [if_pos rejected, counted]
    exact finish_quiet _ quiet

/-! ## Placing what waits (R158, R171) -/

theorem placeItems_full (ws : List WaitItem) (h : HostPort) (n : NoticeUnit) (full : 12 ≤ h.transmit.length) :
    placeItems ws h n = ({ h with waiting := ws }, n) := by
  cases ws with
  | nil => rfl
  | cons w ws => exact if_neg fun ⟨_, room⟩ => absurd room (Nat.not_lt.mpr full)

theorem placeOne_reply {t : Tag} {h : HostPort} {r : Reply} (ready : (h.slot t).reply = some r) (n : NoticeUnit) :
    placeOne (.reply t) h n = ({ h.setSlot t TagSlot.idle with transmit := h.transmit ++ [.reply r] }, n) := by
  rw [placeOne, ready]

/-- An entry whose frame has been placed (R158). -/
def NoticeEntry.asSent (e : NoticeEntry) : NoticeEntry := { e with sent := true }

@[simp] theorem NoticeEntry.asSent_number (e : NoticeEntry) : e.asSent.number = e.number := rfl

/-- The waiting notices of a queue are placed in the queue's order and become SENT. -/
theorem placeItems_notices (rest placed : List NoticeEntry) (h : HostPort) (n : NoticeUnit) (up : h.up = true)
    (queue : n.queue = placed.map NoticeEntry.asSent ++ rest) (distinct : ((placed ++ rest).map fun e => e.number).Nodup)
    (room : h.transmit.length + rest.length ≤ 12) :
    placeItems (rest.map fun e => .notice e.number) h n =
      ({ h with waiting := [], transmit := h.transmit ++ rest.map fun e => .notice e.number e.body },
        { n with queue := (placed ++ rest).map NoticeEntry.asSent }) := by
  induction rest generalizing placed h n with
  | nil =>
    rw [List.append_nil] at queue
    simp [← queue]
  | cons e rest ih =>
    have distinct' := distinct
    rw [List.map_append, List.map_cons, List.nodup_append] at distinct
    obtain ⟨-, tail, apart⟩ := distinct
    have before : ∀ x ∈ placed, x.number ≠ e.number := fun x mem => apart _ (List.mem_map_of_mem mem) _ List.mem_cons_self
    have after : ∀ x ∈ rest, x.number ≠ e.number := fun x mem eq =>
      (List.nodup_cons.mp tail).1 (eq ▸ List.mem_map_of_mem mem)
    have found : n.queue.find? (fun x => x.number == e.number) = some e := by
      rw [queue, List.find?_append, List.find?_eq_none.mpr, Option.none_or, List.find?_cons_of_pos (by simp)]
      simpa using before
    have marked : (n.queue.map fun x => if x.number = e.number then { x with sent := true } else x) =
        (placed ++ [e]).map NoticeEntry.asSent ++ rest := by
      have same : (placed.map NoticeEntry.asSent).map (fun x => if x.number = e.number then { x with sent := true } else x) =
          placed.map NoticeEntry.asSent := by
        rw [List.map_map]
        exact List.map_congr_left fun x mem => if_neg (before x mem)
      have keep : rest.map (fun x => if x.number = e.number then { x with sent := true } else x) = rest :=
        (List.map_congr_left fun x mem => if_neg (after x mem)).trans (List.map_id' _)
      rw [queue, List.map_append, List.map_cons, same, keep, if_pos rfl, List.map_append, List.append_assoc]
      rfl
    have roomNow : h.up = true ∧ h.transmit.length < Config.transmitLimit := by
      simp only [List.length_cons] at room
      exact ⟨up, by rw [show Config.transmitLimit = 12 from rfl]; omega⟩
    have step : placeItems ((e :: rest).map fun e => .notice e.number) h n =
        placeItems (rest.map fun e => .notice e.number) { h with transmit := h.transmit ++ [.notice e.number e.body] }
          { n with queue := (placed ++ [e]).map NoticeEntry.asSent ++ rest } := by
      rw [List.map_cons, placeItems, if_pos roomNow, placeOne, found, ← marked]
    have rest_ := ih (placed ++ [e]) { h with transmit := h.transmit ++ [.notice e.number e.body] }
      { n with queue := (placed ++ [e]).map NoticeEntry.asSent ++ rest } up rfl (by simpa using distinct')
      (by simp at room ⊢; omega)
    rw [step, rest_]
    simp

/-- Settles O17: what waits is placed as far as there is room. -/
theorem linkActivity : Obligations.LinkActivity := by
  rintro s p ⟨run, quiet⟩
  have hears : exec (.characterReceived p) s = finish (hear p s) := by
    change finish (whenRunning (hear p) s) = _
    rw [whenRunning_running _ _ run]
  have sends (up : (s.port p).up = true) : exec (.frameTransmitted p) s =
      finish (place p (s.setPort p { s.port p with transmit := (s.port p).transmit.tail })) := by
    change finish (whenRunning (frameSent p) s) = _
    rw [whenRunning_running _ _ run, frameSent, if_pos up]
  refine ⟨fun clear => ?_, fun waiting distinct empty few => ?_, fun up clear => ?_, fun t rest r up waiting reply full => ?_⟩
  · rw [hears, hear_clear p s clear]
    exact finish_quiet _ quiet
  · have placed := placeItems_notices (s.notices p).queue [] { s.port p with
      up := true, activity := some 20, waiting := (s.notices p).queue.map fun e => .notice e.number } (s.notices p)
      rfl rfl distinct (by simpa [empty] using few)
    rw [hears, hear, place]
    simp only [State.port_setPort_same, State.notices_setPort, State.setPort_setPort, waiting]
    rw [show Config.activityLimit = 20 from rfl, placed]
    exact finish_of_eq (by simp [State.setPort, State.setNotices, empty]; rfl) quiet
  · rw [sends up, place_clear p _ (by simpa using clear)]
    exact finish_quiet _ quiet
  · have room : (s.port p).transmit.tail.length < Config.transmitLimit := by simp [full, Config.transmitLimit]
    have placed : placeItems (.reply t :: rest)
        { s.port p with transmit := (s.port p).transmit.tail, waiting := .reply t :: rest } (s.notices p) =
        ({ s.port p with
          tags := (s.port p).tags.set t TagSlot.idle
          transmit := (s.port p).transmit.tail ++ [.reply r], waiting := rest }, s.notices p) := by
      rw [placeItems, if_pos ⟨up, room⟩, placeOne_reply (r := r) (by exact reply)]
      exact placeItems_full _ _ _ (by simp [full])
    rw [sends up, place]
    simp only [State.port_setPort_same, State.notices_setPort, State.setPort_setPort, waiting]
    rw [placed]
    exact finish_of_eq (by simp [State.setPort, State.setNotices, State.notices]) quiet

/-! ## Replies to a tag (R167) -/

/-- The indicators of a reply to the request under a tag, with neither ALREADY nor GAP (R167). -/
abbrev State.replyMarks (s : State) (p : Port) (t : Tag) : Indicators :=
  { s.marks with clockUnset := (s.slot p t).kindByte == 1 && s.adu.clock.isNone }

theorem replyWith_replied {s : State} {p : Port} {t : Tag} (can : CanReply s p t) (st : Status) (body : ReplyBody)
    (already gap : Bool) :
    replyWith p t st body already gap s = { s with
      ports := s.replied p t st body { s.replyMarks p t with already := already, gap := gap } } :=
  replyWith_now p t st body already gap s can.1 can.2.1 can.2.2.1 can.2.2.2

theorem reply_now {s : State} {p : Port} {t : Tag} (can : CanReply s p t) {st : Status} {body : ReplyBody} :
    reply p t st body s = { s with ports := s.replied p t st body (s.replyMarks p t) } :=
  replyWith_replied can st body false false

/-! ## ACK_NOTICE (R159, R172) -/

/-- Withdrawing entries one after the other leaves the frame at the head and those of other notices. -/
theorem foldl_withdrawFrame (removed : List NoticeEntry) (q : List Frame) :
    removed.foldl (fun q e => withdrawFrame e.number q) q =
      q.head?.toList ++ q.tail.filter fun f =>
        match f with
        | .notice j _ => removed.all fun x => x.number != j
        | .reply _ => true := by
  induction removed generalizing q with
  | nil =>
    have all : ∀ f ∈ q.tail, (match f with
        | .notice j _ => ([] : List NoticeEntry).all fun x => x.number != j
        | .reply _ => true) = true := by
      intro f _
      cases f <;> rfl
    rw [List.filter_eq_self.mpr all]
    cases q <;> rfl
  | cons e removed ih =>
    rw [List.foldl_cons, ih]
    cases q with
    | nil => rfl
    | cons f q =>
      simp only [withdrawFrame, List.head?_cons, List.tail_cons, List.filter_filter]
      refine congrArg _ (List.filter_congr fun g _ => ?_)
      cases g with
      | reply => rfl
      | notice j b => simp [bne_comm, Bool.and_comm]

/-- The gate sees the bodies of a port's own queue (R160). -/
theorem gateClosed_eq (s : State) (p : Port) : s.gateClosed p = (s.notices p).queue.any fun e => e.body.gating := rfl

theorem parse_ackNotice (k : BitVec 16) : parseRequest (17 : Byte).toNat (beBytes 2 k.toNat) = some (.ackNotice k) := by
  have number : beNat (beBytes 2 k.toNat) = k.toNat := beNat_beBytes 2 _ k.isLt
  simp [parseRequest, parseAck, number]

/-- A state whose port has a request in hand and has given up the entries `removed` of its notice queue. -/
def State.acknowledging (s : State) (p : Port) (t : Tag) (x : TagSlot) (removed after : List NoticeEntry) : State :=
  { s with
    ports := s.ports.set p { s.port p with
      up := true, activity := some 20, errors := 0, tags := (s.port p).tags.set t x
      transmit := (s.port p).transmit.head?.toList ++ (s.port p).transmit.tail.filter fun f =>
        match f with
        | .notice j _ => removed.all fun x => x.number != j
        | .reply _ => true }
    ntu := s.ntu.set p { s.notices p with queue := after } }

@[simp] theorem State.port_acknowledging (s : State) (p : Port) (t : Tag) (x : TagSlot) (removed after : List NoticeEntry) :
    (s.acknowledging p t x removed after).port p = { s.port p with
      up := true, activity := some 20, errors := 0, tags := (s.port p).tags.set t x
      transmit := (s.port p).transmit.head?.toList ++ (s.port p).transmit.tail.filter fun f =>
        match f with
        | .notice j _ => removed.all fun x => x.number != j
        | .reply _ => true } := by
  simp [State.acknowledging, State.port]

@[simp] theorem State.slot_acknowledging (s : State) (p : Port) (t : Tag) (x : TagSlot) (removed after : List NoticeEntry) :
    (s.acknowledging p t x removed after).slot p t = x := by
  simp [State.slot, HostPort.slot]

theorem withdraw_clear {h : HostPort} (clear : h.waiting = []) (removed : List NoticeEntry) :
    h.withdraw removed = { h with
      transmit := h.transmit.head?.toList ++ h.transmit.tail.filter fun f =>
        match f with
        | .notice j _ => removed.all fun x => x.number != j
        | .reply _ => true } := by
  simp [HostPort.withdraw, foldl_withdrawFrame, clear]

theorem length_acknowledged (q : List Frame) (keeps : Frame → Bool) :
    (q.head?.toList ++ q.tail.filter keeps).length ≤ q.length := by
  cases q with
  | nil => simp
  | cons f q =>
    have few := List.length_filter_le keeps q
    simp
    omega

/-- Settles O19: the entry named is found at its place, and those up to it leave with their frames. -/
theorem Settled.ackNotice : Obligations.AckNotice := by
  intro s p t k h
  have served := takeRequest_served (kind := 17) h (by simp) (parse_ackNotice k) Bool.noConfusion
  refine ⟨fun before e after queue named first => ?_, fun absent => ?_⟩
  · have place_ : (s.notices p).queue.findIdx? (fun e => e.number == k) = some before.length := by
      rw [queue, List.findIdx?_append, List.findIdx?_eq_none_iff.mpr (by simpa using first)]
      simp [List.findIdx?_cons, named]
    have removed : (s.notices p).queue.take (before.length + 1) = before ++ [e] := by simp [queue, List.take_append]
    have stays : (s.notices p).queue.drop (before.length + 1) = after := by simp [queue, List.drop_append]
    have receiving : (s.receiving p t 17 (beBytes 2 k.toNat)).port p = { s.port p with
        up := true, activity := some 20, errors := 0
        tags := (s.port p).tags.set t (TagSlot.dispatch 17 (beBytes 2 k.toNat)) } := by
      simp [State.receiving, State.taken, State.port]
    have acknowledged : Machine.ackNotice p t k (s.receiving p t 17 (beBytes 2 k.toNat)) =
        reply p t .done (.gate (after.any fun x => x.body.gating))
          (s.acknowledging p t (TagSlot.dispatch 17 (beBytes 2 k.toNat)) (before ++ [e]) after) := by
      unfold Machine.ackNotice
      rw [show (s.receiving p t 17 (beBytes 2 k.toNat)).notices p = s.notices p from rfl]
      dsimp only
      rw [place_, receiving]
      dsimp only
      rw [withdraw_clear (by exact h.1.2), place_clear _ _ (by simpa using h.1.2), gateClosed_eq,
        State.notices_setNotices_same, removed, stays]
      refine congrArg _ ?_
      simp [State.acknowledging, State.setPort, State.setNotices, State.receiving, State.taken]
    have room := (length_acknowledged (s.port p).transmit fun f =>
      match f with
      | .notice j _ => (before ++ [e]).all fun x => x.number != j
      | .reply _ => true).trans_lt h.2.2
    change finish (takeRequest p t 17 (beBytes 2 k.toNat) s) = _
    rw [served, serve, acknowledged, reply_now ⟨by simp [TagSlot.dispatch], by simp, by simpa using h.1.2, by simpa using room⟩]
    refine finish_of_eq ?_ h.1.1.2
    simp only [State.replied, State.port_acknowledging, State.slot_acknowledging, State.replyMarks, State.marks]
    simp [State.acknowledging, TagSlot.dispatch, TagSlot.kindByte, State.low] <;> rfl
  · have none_ : (s.notices p).queue.findIdx? (fun e => e.number == k) = none :=
      List.findIdx?_eq_none_iff.mpr (by simpa using absent)
    refine finish_takeRequest_replied (k := 17) h (by simp) (parse_ackNotice k) Bool.noConfusion .badRequest .empty
      (s.receiving p t 17 _) ?_ rfl rfl rfl h.1.1.2
    change Machine.ackNotice p t k _ = _
    unfold Machine.ackNotice
    rw [show (s.receiving p t 17 (beBytes 2 k.toNat)).notices p = s.notices p from rfl]
    dsimp only
    rw [none_]

/-! ## Completions that are not accepted (R60) -/

section Discarded

variable {s : State} {n : Byte} {kind : DriveOp → Bool}

/-- The outstanding operation has another number, or is of another kind. -/
def State.discards (s : State) (n : Byte) (kind : DriveOp → Bool) : Prop :=
  ∀ o, s.mpt.link = some o → o.number = n → kind o.op = false

theorem completion_discarded (other : s.discards n kind) (head : Outstanding → Option Nat)
    (act : Outstanding → State → State) : completion n kind head act s = s := by
  have none_ : s.accepted n kind = none := by
    refine Option.eq_none_iff_forall_ne_some.mpr fun o accepted => ?_
    obtain ⟨linked, number, isKind⟩ := (s.accepted_iff n kind o).mp accepted
    rw [other o linked number] at isKind
    exact Bool.noConfusion isKind
  rw [completion, none_]

theorem finish_completion_discarded (quiet : s.signals = []) (other : s.discards n kind) (head : Outstanding → Option Nat)
    (act : Outstanding → State → State) : finish (completion n kind head act s) = .next (driveInhibit s) :=
  finish_of_eq (completion_discarded other head act) quiet

end Discarded

/-- Settles O42: each completion looks for the operation it completes. -/
theorem completionsDiscarded : Obligations.CompletionsDiscarded := by
  intro s n quiet
  have discards (kind : DriveOp → Bool) (other : ∀ o, s.mpt.link = some o → o.number = n → ¬kind o.op = true) :
      s.discards n kind := fun o linked number => Bool.eq_false_of_not_eq_true (other o linked number)
  refine ⟨finish_quiet s quiet, fun other => ?_, fun other => ?_, fun other => ?_, fun other => ?_, fun other => ?_,
    fun other => ?_⟩
  · have none_ := discards DriveOp.isMount fun o linked number isMount =>
      other o linked number (by cases op : o.op <;> simp [op, DriveOp.isMount] at isMount ⊢)
    exact ⟨fun _ _ _ => finish_completion_discarded quiet none_ _ _, finish_completion_discarded quiet none_ _ _,
      finish_completion_discarded quiet none_ _ _⟩
  · have none_ := discards DriveOp.isFindEnd fun o linked number isFindEnd =>
      other o linked number (by cases op : o.op <;> simp [op, DriveOp.isFindEnd] at isFindEnd ⊢)
    refine ⟨fun e => ?_, finish_completion_discarded quiet none_ _ _⟩
    change execEndFound n e s = _
    unfold execEndFound
    split
    · exact finish_completion_discarded quiet none_ _ _
    · exact finish_completion_discarded quiet none_ _ _
  · have none_ := discards DriveOp.isSeek fun o linked number isSeek => by
      cases op : o.op <;> simp [op, DriveOp.isSeek] at isSeek
      exact other o linked number _ op
    exact ⟨finish_completion_discarded quiet none_ _ _, finish_completion_discarded quiet none_ _ _⟩
  · have none_ := discards DriveOp.isWrite fun o linked number isWrite => by
      cases op : o.op <;> simp [op, DriveOp.isWrite] at isWrite
      exact other o linked number _ _ op
    exact ⟨finish_completion_discarded quiet none_ _ _, finish_completion_discarded quiet none_ _ _⟩
  · have none_ := discards DriveOp.isRead fun o linked number isRead => by
      cases op : o.op <;> simp [op, DriveOp.isRead] at isRead
      exact other o linked number _ op
    exact ⟨fun _ => finish_completion_discarded quiet none_ _ _, finish_completion_discarded quiet none_ _ _,
      finish_completion_discarded quiet none_ _ _⟩
  · have none_ := discards DriveOp.isEject fun o linked number isEject =>
      other o linked number (by cases op : o.op <;> simp [op, DriveOp.isEject] at isEject ⊢)
    exact ⟨finish_completion_discarded quiet none_ _ _, finish_completion_discarded quiet none_ _ _⟩

/-! The Medium Port: what issuing, ending and completing an operation do, and the grant where it is free, held or not asked
for (R59, R60, R68, R69, R72). -/

/-! ## Operations (R59, R60) -/

theorem issue_idle {s : State} (idle : s.mpt.link = none) (op : DriveOp) (i : Issuer) :
    issue op i s = { s with mpt := s.mpt.send op i false } := if_pos idle

theorem completion_accepted {s : State} {n : Byte} {kind : DriveOp → Bool} {o : Outstanding} (linked : s.mpt.link = some o)
    (number : o.number = n) (isKind : kind o.op = true) (head : Outstanding → Option Nat)
    (act : Outstanding → State → State) :
    completion n kind head act s = handOver (act o (endOperation (head o) s)) := by
  rw [completion, (s.accepted_iff n kind o).mpr ⟨linked, number, isKind⟩]

/-! ## The grant (R72) -/

theorem MediumPort.choose_none {m : MediumPort} (volume : m.volumeWaits = false) (engine : m.engineWaits = false)
    (cursors : ∀ p : Port, m.cursorWaits[p] = false) : m.choose = none := by
  have next : m.nextCursor = none := List.find?_eq_none.mpr fun p _ => Bool.eq_false_iff.mp (cursors p)
  simp [MediumPort.choose, volume, engine, next]

theorem handOver_noneAsks {s : State} (none_ : NoneAsks s) : handOver s = s := by
  obtain ⟨volume, engine, cursors⟩ := none_
  rw [handOver, MediumPort.choose_none volume engine cursors, ite_self]

theorem handOver_held {s : State} {c : Client} (held : s.mpt.holder = some c) : handOver s = s :=
  if_neg fun ⟨free, _⟩ => by simp [held] at free

theorem handOver_linked {s : State} {o : Outstanding} (linked : s.mpt.link = some o) : handOver s = s :=
  if_neg fun ⟨_, idle⟩ => by simp [linked] at idle

theorem MediumPort.setWaits_waits {m : MediumPort} (c : Client) {b : Bool} (waits : m.waits c = b) : m.setWaits c b = m := by
  cases c with
  | volume | engine =>
    subst waits
    rfl
  | cursor p =>
    subst waits
    simp [MediumPort.setWaits, MediumPort.waits]

theorem yieldRecheck_calm {s : State} (calm : s.ape.yield = false) : yieldRecheck s = s :=
  if_neg fun ⟨yields, _⟩ => by simp [calm] at yields

theorem yieldRecheck_mpt (s : State) : (yieldRecheck s).mpt = s.mpt := by simp

theorem release_other {s : State} {c : Client} (other : s.mpt.holder ≠ some c) : release c s = s := if_neg other

/-- A client that neither holds the grant nor waits for it has nothing to let go. -/
theorem letGo_idle {s : State} {c : Client} (other : s.mpt.holder ≠ some c) (waits : s.mpt.waits c = false)
    (calm : s.ape.yield = false) : letGo c s = s := by
  rw [letGo, release_other other, withdrawRequest, MediumPort.setWaits_waits c waits, yieldRecheck_calm calm]

/-- The holder releases the grant, and nobody waits for it. -/
theorem release_noneAsks {s : State} {c : Client} (held : s.mpt.holder = some c) (none_ : NoneAsks s) :
    release c s = { s with
      mpt := { s.mpt with holder := none }
      ape := { s.ape with yield := if c = .engine then false else s.ape.yield } } := by
  rw [release, if_pos held]
  exact handOver_noneAsks none_

/-- A request is granted at once where the grant and the link are free (R72). -/
theorem request_free {s : State} {c : Client} (free : s.mpt.holder = none) (idle : s.mpt.link = none)
    (waits : s.mpt.waits c = false) : request c s = grant c s := by
  rw [request, if_neg (by simp [free, waits]), if_pos ⟨free, idle⟩]

/-! ## A drive that nobody uses -/

/-- No operation is outstanding, nobody holds the grant, and nobody waits for it. -/
def MediumPort.unused (m : MediumPort) : Prop :=
  m.holder = none ∧ m.volumeWaits = false ∧ m.engineWaits = false ∧ ∀ p : Port, m.cursorWaits[p] = false

theorem MediumPort.unused_waits {m : MediumPort} (unused : m.unused) (c : Client) : m.waits c = false := by
  obtain ⟨-, volume, engine, cursors⟩ := unused
  cases c with
  | volume => exact volume
  | engine => exact engine
  | cursor p => exact cursors p

theorem letGo_unused {s : State} (unused : s.mpt.unused) (c : Client) : (letGo c s).mpt = s.mpt := by
  have other : s.mpt.holder ≠ some c := by simp [unused.1]
  rw [letGo, release_other other, withdrawRequest, yieldRecheck_mpt]
  exact MediumPort.setWaits_waits c (MediumPort.unused_waits unused c)

theorem dropCursor_unused {s : State} (unused : s.mpt.unused) (idle : s.mpt.link = none) (p : Port) (c : Cursor) :
    (dropCursor p c s).mpt = s.mpt := by
  have marked : (markClosed p s).mpt = s.mpt := by
    rw [markClosed, idle, Option.map_none, ← idle]
  have gone := letGo_unused (s := markClosed p s) (marked ▸ unused) (.cursor p)
  simpa [dropCursor, marked] using gone

theorem failCursor_unused {s : State} (unused : s.mpt.unused) (idle : s.mpt.link = none) (p : Port) :
    (failCursor s p).mpt = s.mpt := by
  have answered (st : Status) : (answerNext p st s).mpt = s.mpt := by simp
  unfold failCursor
  dsimp only
  split
  · rfl
  · have dropped := dropCursor_unused (s := answerNext p .notReady s) (by rwa [answered]) (by rwa [answered]) p
      { Cursor.reset with state := .failed, filter := (s.cursor p).filter }
    rw [dropped, answered]

theorem failCursors_unused {s : State} (unused : s.mpt.unused) (idle : s.mpt.link = none) :
    (failCursors s).mpt = s.mpt := by
  have each : ∀ (ports : List Port) (u : State), u.mpt = s.mpt → (ports.foldl failCursor u).mpt = s.mpt := by
    intro ports
    induction ports with
    | nil => exact fun u same => same
    | cons p ports ih =>
      exact fun u same => ih _ ((failCursor_unused (by rwa [same]) (by rwa [same]) p).trans same)
  exact each _ s rfl

theorem teardownEngine_idle {s : State} (other : s.mpt.holder ≠ some .engine) (waits : s.mpt.engineWaits = false) :
    teardownEngine s = { s with ape := Engine.reset } := letGo_idle (by exact other) (by exact waits) rfl

theorem dropStaging_unused {s : State} (unused : s.mpt.unused) : (dropStaging s).mpt = s.mpt := by
  obtain ⟨free, -, engine, -⟩ := unused
  unfold dropStaging
  dsimp only
  rw [teardownEngine_idle (by simp [free]) (by simpa using engine)]
  simp

theorem postAll_mpt (l : List Port) (body : Notice) (s : State) : (postAll l body s).mpt = s.mpt := by simp

theorem answerUnload_mpt (st : Status) (body : ReplyBody) (s : State) : (answerUnload st body s).mpt = s.mpt := by simp

theorem volumeLost_unused {s : State} (unused : s.mpt.unused) (idle : s.mpt.link = none) : (volumeLost s).mpt = s.mpt := by
  have cleared : (volumeLost s).mpt = (failCursors s).mpt := by simp [volumeLost]
  exact cleared.trans (failCursors_unused unused idle)

theorem driveFaulted_unused {s : State} (unused : s.mpt.unused) (idle : s.mpt.link = none) :
    (driveFaulted s).mpt = s.mpt := by
  have dropped (u : State) (same : u.mpt = s.mpt) : (dropStaging (refuseQueue u)).mpt = s.mpt := by
    have refused : (refuseQueue u).mpt = u.mpt := by simp
    rw [dropStaging_unused (by rwa [refused, same]), refused, same]
  have lost (u : State) (same : u.mpt = s.mpt) : (volumeLost u).mpt = s.mpt := by
    rw [volumeLost_unused (by rwa [same]) (by rwa [same]), same]
  unfold driveFaulted
  dsimp only
  rw [answerUnload_mpt, postAll_mpt]
  split
  · rw [postAll_mpt]
    exact lost _ (dropped _ rfl)
  · exact lost _ rfl

theorem volumeDriveFault_unused {s : State} (unused : s.mpt.unused) (idle : s.mpt.link = none) :
    (volumeDriveFault s).mpt = s.mpt := by
  have faulted := driveFaulted_unused unused idle
  unfold volumeDriveFault
  split
  · rfl
  · split
    · rfl
    · exact faulted
  · exact faulted
  · exact faulted
  · exact faulted
  · exact faulted
  · exact faulted
  · exact faulted

theorem clearDrive_mpt (s : State) : (clearDrive s).mpt = s.mpt.bare := by
  unfold clearDrive freeAbandoned
  split <;> simp [MediumPort.bare]

theorem bare_unused (m : MediumPort) : m.bare.unused := ⟨rfl, rfl, rfl, fun p => by simp [MediumPort.bare, PortSet.empty]⟩

/-- After a drive fault there is nothing to hand over (R71). -/
theorem handOver_driveFaultEvent (s : State) : handOver (driveFaultEvent s) = driveFaultEvent s := by
  have bare : (driveFaultEvent s).mpt = s.mpt.bare := by
    rw [driveFaultEvent, volumeDriveFault_unused (by rw [clearDrive_mpt]; exact bare_unused _) (by rw [clearDrive_mpt]; rfl),
      clearDrive_mpt]
  refine handOver_noneAsks ?_
  rw [NoneAsks, bare]
  exact (bare_unused s.mpt).2

/-- An operation that has no buffer of its own ends in a drive fault as if it were still outstanding (R69, R71). -/
theorem driveFaultEvent_endOperation {s : State} {o : Outstanding} (linked : s.mpt.link = some o)
    (notRead : o.op.isRead = false) (head : Option Nat) : driveFaultEvent (endOperation head s) = driveFaultEvent s := by
  have noBuffer : freeAbandoned s = s := by
    simp [freeAbandoned, linked, holdsBuffer_of_not_read notRead]
  have ended : freeAbandoned (endOperation head s) = endOperation head s := by simp [freeAbandoned, endOperation]
  rw [driveFaultEvent, driveFaultEvent, clearDrive, clearDrive, noBuffer, ended]
  rfl

/-- An accepted error completion is a drive fault (R69). -/
theorem escalate_accepted {s : State} {n : Byte} {kind : DriveOp → Bool} {o : Outstanding} (linked : s.mpt.link = some o)
    (number : o.number = n) (isKind : kind o.op = true) (notRead : o.op.isRead = false) :
    escalate n kind s = driveFaultEvent s := by
  rw [escalate, completion_accepted linked number isKind, driveFaultEvent_endOperation linked notRead,
    handOver_driveFaultEvent]

theorem exec_driveFault {s : State} (run : s.ctl.test = .running) : exec .driveFault s = finish (driveFaultEvent s) := by
  change finish (byMode driveFaultEvent faultInTest s) = _
  rw [byMode, run]

/-- Settles O43: the expiry by the operation and its issuer, and the error completions. -/
theorem operationFails : Obligations.OperationFails := by
  intro s o quiet linked
  have faults {u : State} (run : s.ctl.test = .running) (eq : u = driveFaultEvent s) :
      ∃ t, exec .driveFault s = .next t ∧ finish u = .next t := by
    obtain ⟨t, ended⟩ := finish_next (driveFaultEvent s)
    exact ⟨t, (exec_driveFault run).trans ended, eq ▸ ended⟩
  have expired (notWrite : ∀ n b, o.op ≠ .write n b) (running : s.mpt.timer ≠ none) : operationExpired s =
      if o.issuer = .control then haltTest (endOperation none s)
      else if s.mpt.retry then driveFaultEvent s else retryOperation o s := by
    obtain ⟨l, timer⟩ := Option.ne_none_iff_exists'.mp running
    rw [operationExpired, timer, linked]
    dsimp only
    split
    next op => exact absurd op (notWrite _ _)
    all_goals rfl
  refine ⟨fun notWrite other running first => ?_, fun notWrite other running retried run => ?_,
    fun isWrite running => ?_, fun notWrite control running => ?_, fun run => ⟨fun op => ?_, fun op e c capacity beyond => ?_,
      fun op => ?_, fun op => ?_⟩⟩
  · change finish (operationExpired s) = _
    rw [expired notWrite running, if_neg other, if_neg (by simp [first])]
    exact finish_quiet _ quiet
  · refine faults run ?_
    rw [expired notWrite running, if_neg other, if_pos retried]
  · obtain ⟨n, b, op⟩ := isWrite
    obtain ⟨l, timer⟩ := Option.ne_none_iff_exists'.mp running
    have asError : completion o.number DriveOp.isWrite (fun _ => none) (fun _ => writeEnded false) s =
        operationExpired s := by
      rw [completion_accepted linked rfl (by rw [op]; rfl), operationExpired, timer, linked]
      dsimp only
      rw [op]
    obtain ⟨t, ended⟩ := finish_next (operationExpired s)
    exact ⟨t, (congrArg finish asError).trans ended, ended⟩
  · change finish (operationExpired s) = _
    rw [expired notWrite running, if_pos control]
    exact finish_quiet _ quiet
  · exact faults run (escalate_accepted linked rfl (by rw [op]; rfl) (by rw [op]; rfl))
  · have outside : endWithin e.toNat s = false := by simpa [endWithin, capacity] using beyond
    obtain ⟨t, fault, ended⟩ := faults run
      (escalate_accepted (kind := DriveOp.isFindEnd) linked rfl (by rw [op]; rfl) (by rw [op]; rfl))
    refine ⟨t, fault, ?_⟩
    change execEndFound o.number e s = _
    rw [execEndFound, outside]
    exact ended
  · obtain ⟨n, op⟩ := op
    exact faults run (escalate_accepted linked rfl (by rw [op]; rfl) (by rw [op]; rfl))
  · exact faults run (escalate_accepted linked rfl (by rw [op]; rfl) (by rw [op]; rfl))

/-! The replay cursors at the host's requests: the wake-ups of the pool, the fill check, REPLAY_NEXT, REPLAY_CLOSE and
REPLAY_OPEN (R121 to R124, R132, R135, R136). -/

/-! ## Wake-ups (R55, R126) -/

theorem wakeHead_empty {s : State} (empty : s.adu.queue = []) : wakeHead s = s := by rw [wakeHead, empty]

/-- A wake-up that finds nobody waiting uses up its two free choices. -/
theorem settles_wake {s : State} {rest : List Signal} (queue : s.signals = .wake :: rest) (none_ : NoneWaits s) :
    Settles 3 s { s with signals := rest, choice := s.choice + 2 } := by
  obtain ⟨empty, awake⟩ := none_
  have head (u : State) (adu : u.adu = s.adu) : handle .wakeAdmission u = u := wakeHead_empty (adu ▸ empty)
  have cursors (u : State) (same : u.cursors = s.cursors) : handle .wakeReplay u = u.chosen :=
    wakeStarved_idle fun q => by
      rw [State.cursor, same]
      exact awake q
  have wake := Settles.report (u := wakeBoth { s with signals := [] }) queue rfl
  unfold wakeBoth at wake
  split at wake
  · have first := Settles.report (s := { s with signals := .wakeAdmission :: .wakeReplay :: rest, choice := s.choice + 1 })
      rfl (head _ rfl)
    have second := Settles.report (s := { s with signals := .wakeReplay :: rest, choice := s.choice + 1 })
      rfl (cursors _ rfl)
    exact wake.trans (first.trans second)
  · have first := Settles.report (s := { s with signals := .wakeReplay :: .wakeAdmission :: rest, choice := s.choice + 1 })
      rfl (cursors _ rfl)
    have second := Settles.report (s := { s with signals := .wakeAdmission :: rest, choice := s.choice + 2 })
      rfl (head _ rfl)
    exact wake.trans (first.trans second)

/-- The end of a step that leaves one report, whose handling raises none. -/
theorem finish_raise {g : Signal} {s u : State} (quiet : s.signals = []) (acted : handle g s = u) (still : u.signals = []) :
    finish (raise g s) = .next (driveInhibit u) :=
  finish_of_settles (Settles.raised quiet acted) still

/-- The end of a step that leaves one wake-up, for nobody. -/
theorem finish_wake {s : State} (queue : s.signals = [.wake]) (none_ : NoneWaits s) :
    finish s = .next (driveInhibit { s with signals := [], choice := s.choice + 2 }) :=
  finish_of_settles (settles_wake queue none_) rfl

/-- The end of a step whose only report is the wake-up of the buffers it frees. -/
theorem finish_freeBuffers {s u : State} {k : Nat} (eq : s = freeBuffers k u) (quiet : u.signals = []) (none_ : NoneWaits u) :
    finish s = .next (driveInhibit { u with
      pool := { u.pool with free := u.pool.free + k }, choice := if k = 0 then u.choice else u.choice + 2 }) := by
  subst eq
  by_cases none : k = 0
  · subst none
    exact finish_of_eq rfl quiet
  · have woken := finish_wake (s := raise .wake { u with pool := { u.pool with free := u.pool.free + k } })
      (by simp [quiet]) none_
    rw [freeBuffers, if_neg none, woken, if_neg none, ← quiet]
    rfl

/-! ## The state of a cursor and its fill check (R121, R124) -/

theorem deriveCursor_same {s : State} {p : Port} (same : (s.cursor p).derive s.vom = s.cursor p) : deriveCursor p s = s := by
  rw [deriveCursor, same, State.setCursor_self]

theorem Cursor.derive_ready {c : Cursor} (ready : c.state = .ready) (some_ : c.buffered ≠ []) (v : VolumeRecord) :
    c.derive v = c := by
  rw [Cursor.derive, if_neg (by simp [ready]), if_pos some_, ← ready]

theorem Cursor.derive_atFrontier {c : Cursor} {v : VolumeRecord} (isOpen : ¬(c.state = .closed ∨ c.state = .failed))
    (empty : c.buffered = []) (past : c.pastFrontier v = true) : c.derive v = { c with state := .atFrontier } := by
  rw [Cursor.derive, if_neg isOpen, if_neg (not_not_intro empty), if_pos (by simp [past])]

theorem Cursor.derive_filling {c : Cursor} {v : VolumeRecord} (isOpen : ¬(c.state = .closed ∨ c.state = .failed))
    (empty : c.buffered = []) (before : c.pastFrontier v = false) (free : c.held v.frontier = false) :
    c.derive v = { c with state := .filling } := by
  rw [Cursor.derive, if_neg isOpen, if_neg (not_not_intro empty), if_neg (by simp [before, free])]

/-- A fill check that asks for nothing, of a cursor that is not STARVED. -/
theorem fillCheck_unwanted {s : State} {p : Port} (unwanted : s.fillWanted (s.cursor p) = false)
    (awake : (s.cursor p).phase ≠ .starved) : fillCheck p s = s := by
  rw [fillCheck]
  simp [unwanted, awake]

theorem fillWanted_pastFrontier {s : State} {c : Cursor} (past : c.pastFrontier s.vom = true) : s.fillWanted c = false := by
  simp [State.fillWanted, past]

theorem fillWanted_stocked {s : State} {c : Cursor} (stocked : 2 ≤ c.buffered.length) : s.fillWanted c = false := by
  have enough : ¬c.buffered.length < Config.lowMark := Nat.not_lt.mpr stocked
  simp [State.fillWanted, enough]

theorem pastFrontier_iff {c : Cursor} {v : VolumeRecord} :
    c.pastFrontier v = true ↔ v.frontier = none ∨ ∀ sd, v.frontierSlot = some sd → sd < c.readPos.getD 0 := by
  cases frontier : v.frontier <;> cases slot : v.frontierSlot <;> simp [Cursor.pastFrontier, aboveBound, frontier, slot]

/-- A reply, other than an APPEND's, to a request just taken, with ALREADY or GAP. -/
theorem replyWith_of_taken {s : State} {p : Port} {t : Tag} {k : Byte} {b : List Byte} (h : Ready s p t) (notAppend : k ≠ 1)
    (st : Status) (body : ReplyBody) (already gap : Bool) {u : State} (taken : u.ports = s.taken p t (TagSlot.dispatch k b))
    (low : u.low = s.low) :
    replyWith p t st body already gap u =
      { u with ports := s.answered p t k st body { s.marks with already := already, gap := gap } } := by
  have other : (k == 1#8) = false := beq_false_of_ne notAppend
  rw [replyWith_taken p t st body already gap s u _ taken h TagState.noConfusion, low]
  simp [TagSlot.dispatch, TagSlot.kindByte, other, State.marks]

theorem receiving_setSlot (s : State) (p : Port) (t : Tag) (k : Byte) (b : List Byte) (x : TagSlot) :
    (s.receiving p t k b).setSlot p t x = { s with ports := s.taken p t x } :=
  congrArg (fun ports => { s with ports := ports }) (taken_setSlot s p t _ x (s.receiving p t k b) rfl)

/-! ## REPLAY_NEXT (R132) -/

theorem phases_setCursor {s : State} {p : Port} {c : Cursor} (awake : ∀ q, (s.cursor q).phase ≠ .starved)
    (phase : c.phase ≠ .starved) (q : Port) : ((s.setCursor p c).cursor q).phase ≠ .starved := by
  rw [State.cursor_setCursor]
  split
  · exact phase
  · exact awake q

@[simp] theorem cursor_freeBuffers (k : Nat) (s : State) (q : Port) : (freeBuffers k s).cursor q = s.cursor q := by
  simp [State.cursor]

/-- The head of a buffered list is delivered, and enough blocks stay buffered. -/
theorem deliver_stocked {s : State} {p : Port} (t : Tag) {e : Buffered} {rest : List Buffered}
    (ready : (s.cursor p).state = .ready) (buffered : (s.cursor p).buffered = e :: rest) (stocked : 2 ≤ rest.length)
    (awake : (s.cursor p).phase ≠ .starved) :
    deliver p t s = freeBuffers 1 ((replyWith p t .done (e.body (s.cursor p).filter) false e.gap s).setCursor p
      { s.cursor p with buffered := rest }) := by
  have cursor (u : State) : (freeBuffers 1 (u.setCursor p { s.cursor p with buffered := rest })).cursor p =
      { s.cursor p with buffered := rest } := by
    rw [cursor_freeBuffers, State.cursor_setCursor_same]
  have some_ : rest ≠ [] := by
    rintro rfl
    simp at stocked
  rw [deliver, buffered]
  dsimp only
  rw [deriveCursor_same, fillCheck_unwanted]
  · rw [cursor]
    exact fillWanted_stocked stocked
  · rwa [cursor]
  · rw [cursor]
    exact Cursor.derive_ready (c := { s.cursor p with buffered := rest }) ready some_ _

/-- Settles O55, by the state of the cursor. -/
theorem Settled.replayNext : Obligations.ReplayNext := by
  intro s p t h gate
  have parsed : parseRequest (12 : Byte).toNat [] = some .replayNext := rfl
  have served := takeRequest_served (kind := 12) h (by simp) parsed fun _ => gate
  have answered {st : Status} {body : ReplyBody}
      (eq : Machine.replayNext p t (s.receiving p t 12 []) = reply p t st body (s.receiving p t 12 [])) :
      exec (.replayNext p t []) s = .next (driveInhibit { s with ports := s.answered p t 12 st body s.marks }) :=
    finish_takeRequest_replied (k := 12) h (by simp) parsed (fun _ => gate) st body (s.receiving p t 12 []) eq rfl rfl rfl h.1.1.2
  have cursor : (s.receiving p t 12 []).cursor p = s.cursor p := rfl
  refine ⟨fun closed => answered ?_, fun failed => answered ?_, fun e rest ready buffered stocked none_ => ?_,
    fun frontier idle empty past => ?_, fun filling busy free => ?_, fun filling pending => answered ?_⟩
  · rw [Machine.replayNext, cursor, closed]
  · rw [Machine.replayNext, cursor, failed]
  · have answer := replyWith_of_taken (k := 12) (b := []) h (by decide) .done (e.body (s.cursor p).filter) false e.gap
      (u := s.receiving p t 12 []) rfl rfl
    have delivered := deliver_stocked (s := s.receiving p t 12 []) t ready buffered stocked (none_.2 p)
    rw [cursor, answer] at delivered
    change finish (takeRequest p t 12 [] s) = _
    rw [served, serve, Machine.replayNext, cursor, ready]
    exact finish_freeBuffers delivered h.1.1.2 ⟨none_.1, phases_setCursor none_.2 (none_.2 p)⟩
  · have atEnd : (s.cursor p).pastFrontier s.vom = true := by
      rw [pastFrontier_iff]
      refine past.imp_right ?_
      rintro ⟨n, sd, pos, slot, above⟩ sd' slot'
      obtain rfl := Option.some.inj (slot.symm.trans slot')
      rwa [pos]
    have isOpen : ¬((s.cursor p).state = .closed ∨ (s.cursor p).state = .failed) := by simp [frontier]
    have derived : deriveCursor p (s.receiving p t 12 []) = s.receiving p t 12 [] :=
      deriveCursor_same (by rw [cursor]; exact (Cursor.derive_atFrontier isOpen empty atEnd).trans (by rw [← frontier]))
    have checked : fillCheck p (s.receiving p t 12 []) = s.receiving p t 12 [] :=
      fillCheck_unwanted (fillWanted_pastFrontier atEnd) (by rw [cursor, idle]; exact Phase.noConfusion)
    have answer := replyWith_of_taken (k := 12) (b := []) h (by decide) .endOfData
      (.endOfData (s.cursor p).readPos s.vom.frontierSlot) false (s.cursor p).gap
      (u := (s.receiving p t 12 []).setCursor p { s.cursor p with gap := false }) rfl rfl
    have ended : Machine.replayNext p t (s.receiving p t 12 []) = replyEndOfData p t (s.receiving p t 12 []) := by
      rw [Machine.replayNext, cursor, frontier]
      dsimp only
      rw [derived, checked, cursor, frontier, if_neg CursorState.noConfusion]
    change finish (takeRequest p t 12 [] s) = _
    rw [served, serve, ended]
    exact finish_of_eq answer h.1.1.2
  · have kept : Machine.replayNext p t (s.receiving p t 12 []) = keepNext p t (s.receiving p t 12 []) := by
      rw [Machine.replayNext, cursor, filling]
      dsimp only
      rw [if_pos free, keepNext, State.cursor_setCursor_same, cursor]
      exact if_neg busy
    change finish (takeRequest p t 12 [] s) = _
    rw [served, serve, kept, keepNext, State.setTagState, taken_slot s p t _ (s.receiving p t 12 []) rfl, receiving_setSlot]
    exact finish_of_eq rfl h.1.1.2
  · rw [Machine.replayNext, cursor, filling]
    exact if_neg pending

/-! ## Closing a cursor (R135, R136) -/

theorem MediumPort.cursorWaits_setWaits (m : MediumPort) (p : Port) (b : Bool) :
    m.setWaits (.cursor p) b = { m with cursorWaits := m.cursorWaits.set p b } := rfl

theorem letGo_other {s : State} {c : Client} (other : s.mpt.holder ≠ some c) (calm : s.ape.yield = false) :
    letGo c s = { s with mpt := s.mpt.setWaits c false } := by
  rw [letGo, release_other other]
  exact yieldRecheck_calm calm

/-- The Medium Port after a cursor that does not hold the grant has been closed (R136). -/
def MediumPort.without (m : MediumPort) (p : Port) : MediumPort :=
  { m with
    cursorWaits := m.cursorWaits.set p false
    link := m.link.map fun o => if o.issuer = .cursor p then { o with issuer := .closedCursor p } else o }

theorem markClosed_eq (p : Port) (s : State) : markClosed p s = { s with mpt := { s.mpt with
    link := s.mpt.link.map fun o => if o.issuer = .cursor p then { o with issuer := .closedCursor p } else o } } := by
  have same (o : Outstanding) : { o with issuer := o.issuer.closed p } =
      if o.issuer = .cursor p then { o with issuer := .closedCursor p } else o := by
    unfold Issuer.closed
    split <;> rfl
  simp only [markClosed, same]

/-- A cursor that does not hold the grant is dropped (R135, R137). -/
theorem dropCursor_other {s : State} {p : Port} (c : Cursor) (other : s.mpt.holder ≠ some (.cursor p))
    (calm : s.ape.yield = false) :
    dropCursor p c s = freeBuffers (s.cursor p).buffered.length { s with
      mpt := s.mpt.without p, cursors := s.cursors.set p c } := by
  rw [dropCursor, markClosed_eq, letGo_other (by exact other) (by exact calm)]
  rfl

theorem freeBuffers_withPorts (k : Nat) (s : State) (ports : Vector HostPort 4) :
    { freeBuffers k s with ports := ports } = freeBuffers k { s with ports := ports } := by
  unfold freeBuffers
  split <;> rfl

theorem freeBuffers_setCursor (k : Nat) (s : State) (p : Port) (c : Cursor) :
    (freeBuffers k s).setCursor p c = freeBuffers k (s.setCursor p c) := by
  unfold freeBuffers
  split <;> rfl

/-- Settles O56: the DONE follows the drop of the cursor, and the wake-up of its buffers finds nobody waiting. -/
theorem Settled.replayClose : Obligations.ReplayClose := by
  intro s p t h
  have parsed : parseRequest (13 : Byte).toNat [] = some .replayClose := rfl
  have served := takeRequest_served (kind := 13) h (by simp) parsed Bool.noConfusion
  have cursor : (s.receiving p t 13 []).cursor p = s.cursor p := rfl
  refine ⟨fun closed => ?_, fun isOpen noNext other calm empty awake => ?_⟩
  · refine finish_takeRequest_replied (k := 13) h (by simp) parsed Bool.noConfusion .done .empty (s.receiving p t 13 [])
      ?_ rfl rfl rfl h.1.1.2
    rw [serve, Machine.replayClose, closeCursor, cursor, if_pos closed]
  · have dropped : closeCursor p true (s.receiving p t 13 []) = freeBuffers (s.cursor p).buffered.length
        { s.receiving p t 13 [] with mpt := s.mpt.without p, cursors := s.cursors.set p Cursor.reset } := by
      rw [closeCursor, if_neg (by exact isOpen), if_pos rfl, answerNext, cursor, noNext]
      exact dropCursor_other Cursor.reset other calm
    have answer := replyWith_of_taken (k := 13) (b := []) h (by decide) .done .empty false false
      (u := freeBuffers (s.cursor p).buffered.length
        { s.receiving p t 13 [] with mpt := s.mpt.without p, cursors := s.cursors.set p Cursor.reset })
      (freeBuffers_keeps _ _).2.2.2.1 (by simp [State.low, State.receiving])
    rw [freeBuffers_withPorts] at answer
    have phases : ∀ q, (({ s with cursors := s.cursors.set p Cursor.reset } : State).cursor q).phase ≠ .starved := by
      intro q
      rw [show ({ s with cursors := s.cursors.set p Cursor.reset } : State) = s.setCursor p Cursor.reset from rfl,
        State.cursor_setCursor]
      split_ifs with same
      · exact Phase.noConfusion
      · exact awake q fun eq => same eq.symm
    change finish (takeRequest p t 13 [] s) = _
    rw [served, serve, Machine.replayClose, dropped]
    refine (finish_freeBuffers answer h.1.1.2 ⟨empty, phases⟩).trans ?_
    simp only [List.length_eq_zero_iff]
    rfl

/-! ## The steps of a fill (R125) -/

section Filling

variable {s : State} {p : Port}

theorem reading_iff : s.reading p = true ↔ s.mpt.holder = some (.cursor p) ∧ (s.cursor p).phase = .reading := by
  simp [State.reading]

/-- A fill whose head position is elsewhere seeks its read position. -/
theorem fillStep_seek {n : Nat} (reading : s.reading p = true) (idle : s.mpt.link = none)
    (goesOn : s.fillOver (s.cursor p) = false) (pos : (s.cursor p).readPos = some n) (elsewhere : s.mpt.head ≠ some n) :
    fillStep p s = { s with mpt := s.mpt.send (.seek n) (.cursor p) false } := by
  rw [fillStep, if_pos ⟨reading, idle⟩]
  dsimp only
  rw [goesOn, if_neg Bool.false_ne_true, pos, Option.getD_some, if_pos elsewhere, issue_idle idle]

/-- A fill at its read position takes a buffer and reads. -/
theorem fillStep_read {n : Nat} (reading : s.reading p = true) (idle : s.mpt.link = none)
    (goesOn : s.fillOver (s.cursor p) = false) (pos : (s.cursor p).readPos = some n) (there : s.mpt.head = some n)
    (granted : s.takeGranted = true) :
    fillStep p s = { s with
      pool := { s.pool with free := s.pool.free - 1 }
      cursors := s.cursors.set p { s.cursor p with inFlight := true, reads := (s.cursor p).reads + 1 }
      mpt := s.mpt.send (.read n) (.cursor p) false } := by
  rw [fillStep, if_pos ⟨reading, idle⟩]
  dsimp only
  rw [goesOn, if_neg Bool.false_ne_true, pos, Option.getD_some, if_neg (not_not_intro there), if_pos granted,
    issue_idle (by exact idle)]
  rfl

/-- A fill at its read position to which the pool refuses a buffer (R126). -/
theorem fillStep_refused {n : Nat} (reading : s.reading p = true) (idle : s.mpt.link = none)
    (goesOn : s.fillOver (s.cursor p) = false) (pos : (s.cursor p).readPos = some n) (there : s.mpt.head = some n)
    (refused : s.takeGranted = false) : fillStep p s = stopFill p .starved s := by
  rw [fillStep, if_pos ⟨reading, idle⟩]
  dsimp only
  rw [goesOn, if_neg Bool.false_ne_true, pos, Option.getD_some, if_neg (not_not_intro there), refused,
    if_neg Bool.false_ne_true]

theorem fillStep_over (reading : s.reading p = true) (idle : s.mpt.link = none)
    (stops : s.fillOver (s.cursor p) = true) : fillStep p s = stopFill p .idle s := by
  rw [fillStep, if_pos ⟨reading, idle⟩]
  exact if_pos stops

theorem pastFrontier_of_le {c : Cursor} {v : VolumeRecord} {d sd n : Nat} (frontier : v.frontier = some d)
    (slot : v.frontierSlot = some sd) (pos : c.readPos = some n) (within : n ≤ sd) : c.pastFrontier v = false := by
  rw [Bool.eq_false_iff, Ne, pastFrontier_iff]
  rintro (none_ | past)
  · simp [frontier] at none_
  · have beyond := past sd slot
    rw [pos, Option.getD_some] at beyond
    omega

/-- A cursor to which the grant is handed begins its fill and seeks (R125). -/
theorem cursorGranted_seek {n : Nat} (held : s.mpt.holder = some (.cursor p)) (asking : (s.cursor p).phase = .asking)
    (idle : s.mpt.link = none) (few : (s.cursor p).buffered.length < s.params.readahead)
    (before : (s.cursor p).pastFrontier s.vom = false) (free : (s.cursor p).held s.vom.frontier = false)
    (pos : (s.cursor p).readPos = some n) (elsewhere : s.mpt.head ≠ some n) :
    cursorGranted p s = { s with
      cursors := s.cursors.set p { s.cursor p with phase := .reading, reads := 0, inUse := some s.params.readahead }
      mpt := s.mpt.send (.seek n) (.cursor p) false } := by
  have cursor : (s.setCursor p { s.cursor p with
      phase := .reading, reads := 0, inUse := some s.params.readahead }).cursor p =
      { s.cursor p with phase := .reading, reads := 0, inUse := some s.params.readahead } := State.cursor_setCursor_same _ _ _
  rw [cursorGranted, if_pos ⟨held, asking⟩]
  refine fillStep_seek ?_ idle ?_ ?_ elsewhere
  · rw [reading_iff, cursor]
    exact ⟨held, rfl⟩
  · have notDone : ¬s.params.readahead ≤ (s.cursor p).buffered.length := Nat.not_le.mpr few
    rw [cursor]
    simp [State.fillOver, notDone, Config.readBurst]
    exact ⟨before, free⟩
  · rw [cursor]
    exact pos

end Filling

/-! ## Requests for the grant by a cursor (R72, R73) -/

theorem yieldCheck_calm {s : State} (early : s.mpt.holder = some .engine → s.mpt.burstDone = false) : yieldCheck s = s :=
  if_neg fun ⟨engine, _, done, _⟩ => by simp [early engine] at done

theorem burstDone_false {m : MediumPort} (few : ∀ l, m.burstLimit = some l → m.writes < l) : m.burstDone = false := by
  unfold MediumPort.burstDone
  split
  next l limit => simpa using few l limit
  next => rfl

/-- A cursor's request waits while another client holds the grant, and the engine is not asked to yield. -/
theorem request_cursor_waits {s : State} {p : Port} {c : Client} (held : s.mpt.holder = some c) (other : c ≠ .cursor p)
    (waits : s.mpt.waits (.cursor p) = false)
    (early : c = .engine → ∀ l, s.mpt.burstLimit = some l → s.mpt.writes < l) :
    request (.cursor p) s = { s with mpt := { s.mpt with cursorWaits := s.mpt.cursorWaits.set p true } } := by
  rw [request, if_neg (by simp [held, other, waits]), if_neg (by simp [held])]
  refine yieldCheck_calm fun engine => burstDone_false (early ?_)
  exact Option.some.inj (held.symm.trans engine)

/-! REPLAY_OPEN (R122, R123): the refusals, the cursor it sets up, and the cursor it closes first. -/

/-- A state whose cursor of port p is `c` and has just been given a grant that nobody held (R72, R74). -/
def State.grantedTo (s : State) (p : Port) (c : Cursor) : State :=
  { s with
    cursors := s.cursors.set p c
    mpt := { s.mpt with
      holder := some (.cursor p), writes := 0, burstLimit := some s.params.burstMax, lastServed := p } }

theorem handle_granted_cursor {s : State} {p : Port} : handle (.granted (.cursor p)) s = cursorGranted p s := rfl

@[simp] theorem State.cursor_grantedTo (s : State) (p : Port) (c : Cursor) : (s.grantedTo p c).cursor p = c := by
  simp [State.grantedTo, State.cursor]

section Opening

variable {s : State} {p : Port} {t : Tag} {st : Start} {f : Filter}

/-! ## The checks (R122) -/

theorem openRefusal_unreadable (unreadable : s.vom.readable = false) : s.openRefusal st f = some .notReady :=
  if_pos unreadable

theorem openRefusal_bad (readable : s.vom.readable = true)
    (bad : f = { streams := 0, part := false } ∨
      ∃ n, st = .slot n ∧ ∀ d sd, s.vom.frontier = some d → s.vom.frontierSlot = some sd → sd < n) :
    s.openRefusal st f = some .badRequest := by
  unfold State.openRefusal
  rw [if_neg (by simp [readable])]
  by_cases empty : f.streams = 0 ∧ f.part = false
  · exact if_pos empty
  · rw [if_neg empty]
    obtain rfl | ⟨n, rfl, above⟩ := bad
    · exact absurd ⟨rfl, rfl⟩ empty
    · cases frontier : s.vom.frontier with
      | none => rfl
      | some d =>
        cases slot : s.vom.frontierSlot with
        | none => rfl
        | some sd => simp [aboveBound, above d sd frontier slot]

theorem openRefusal_none (readable : s.vom.readable = true) (some_ : f ≠ { streams := 0, part := false })
    (within : ∀ n, st = .slot n → ∃ d sd, s.vom.frontier = some d ∧ s.vom.frontierSlot = some sd ∧ n ≤ sd) :
    s.openRefusal st f = none := by
  have passing : ¬(f.streams = 0 ∧ f.part = false) := fun ⟨streams, part⟩ =>
    some_ (by rw [← streams, ← part])
  unfold State.openRefusal
  rw [if_neg (by simp [readable]), if_neg passing]
  cases start : st with
  | first | tail => rfl
  | slot n =>
    obtain ⟨d, sd, frontier, slot, le⟩ := within n start
    simp [frontier, slot, aboveBound, le]

/-! ## The cursor set up (R121, R123) -/

/-- The cursor of an accepted REPLAY_OPEN, with its state derived. -/
theorem replayOpen_eq (accepted : s.openRefusal st f = none) :
    replayOpen p t st f s = fillCheck p (reply p t .done (.position (st.position s.vom.frontierSlot))
      (deriveCursor p ((closeCursor p true s).setCursor p (Cursor.opened (st.position s.vom.frontierSlot) f)))) := by
  rw [replayOpen, accepted]

theorem opened_isOpen (n : Nat) (f : Filter) :
    ¬((Cursor.opened n f).state = .closed ∨ (Cursor.opened n f).state = .failed) := by
  rintro (closed | failed)
  · exact CursorState.noConfusion closed
  · exact CursorState.noConfusion failed

/-- A cursor that starts at or below S_D fills (R121). -/
theorem derive_opened {v : VolumeRecord} {d sd n : Nat} (frontier : v.frontier = some d) (slot : v.frontierSlot = some sd)
    (within : n ≤ sd) : (Cursor.opened n f).derive v = Cursor.opened n f :=
  Cursor.derive_filling (opened_isOpen n f) rfl (pastFrontier_of_le frontier slot rfl within) rfl

/-- With D unset the cursor stands at the frontier (R121). -/
theorem derive_opened_frontier {v : VolumeRecord} (n : Nat) (none_ : v.frontier = none) :
    (Cursor.opened n f).derive v = { Cursor.opened n f with state := .atFrontier } :=
  Cursor.derive_atFrontier (opened_isOpen n f) rfl (pastFrontier_iff.mpr (.inl none_))

/-- The fill check of a cursor just opened asks for the grant (R124). -/
theorem fillCheck_opened {d sd n : Nat} (cursor : s.cursor p = Cursor.opened n f) (readable : s.vom.readable = true)
    (frontier : s.vom.frontier = some d) (slot : s.vom.frontierSlot = some sd) (within : n ≤ sd)
    (reads : 1 ≤ s.params.readahead) :
    fillCheck p s = request (.cursor p) (s.setCursor p { Cursor.opened n f with phase := .asking }) := by
  have before : (Cursor.opened n f).pastFrontier s.vom = false := pastFrontier_of_le frontier slot rfl within
  have wanted : s.fillWanted (s.cursor p) = true := by
    rw [cursor, State.fillWanted, before]
    have positive : 0 < s.params.readahead := reads
    simp [Cursor.opened, Cursor.reset, Cursor.held, VolumeRecord.fillable, readable, Config.lowMark, positive]
  rw [fillCheck, cursor]
  rw [cursor] at wanted
  exact if_pos wanted

/-- The fill check of a cursor just opened waits while another client holds the grant (R72, R73). -/
theorem fillCheck_opened_waits {d sd n : Nat} {c : Client} (cursor : s.cursor p = Cursor.opened n f)
    (readable : s.vom.readable = true) (frontier : s.vom.frontier = some d) (slot : s.vom.frontierSlot = some sd)
    (within : n ≤ sd) (reads : 1 ≤ s.params.readahead) (held : s.mpt.holder = some c) (other : c ≠ .cursor p)
    (waits : s.mpt.waits (.cursor p) = false)
    (early : c = .engine → ∀ l, s.mpt.burstLimit = some l → s.mpt.writes < l) :
    fillCheck p s = { s with
      cursors := s.cursors.set p { Cursor.opened n f with phase := .asking }
      mpt := { s.mpt with cursorWaits := s.mpt.cursorWaits.set p true } } := by
  rw [fillCheck_opened cursor readable frontier slot within reads]
  exact request_cursor_waits (s := s.setCursor p { Cursor.opened n f with phase := .asking }) held other waits early

/-- The fill check of a cursor just opened gets the grant where it is free, and the fill begins with its seek (R72, R74). -/
theorem finish_opened_granted {d sd n : Nat} (cursor : s.cursor p = Cursor.opened n f)
    (readable : s.vom.readable = true) (frontier : s.vom.frontier = some d) (slot : s.vom.frontierSlot = some sd)
    (within : n ≤ sd) (reads : 1 ≤ s.params.readahead) (free : s.mpt.holder = none) (idle : s.mpt.link = none)
    (waits : s.mpt.waits (.cursor p) = false) (elsewhere : s.mpt.head ≠ some n) (quiet : s.signals = []) :
    finish (fillCheck p s) = .next (driveInhibit { s with
      cursors := s.cursors.set p { Cursor.opened n f with phase := .reading, inUse := some s.params.readahead }
      mpt := { s.mpt with
        link := some { op := .seek n, number := s.mpt.nextOp, issuer := .cursor p }, timer := some 3000
        retry := false, nextOp := s.mpt.nextOp + 1, holder := some (.cursor p), writes := 0
        burstLimit := some s.params.burstMax, lastServed := p } }) := by
  have asked : fillCheck p s = raise (.granted (.cursor p)) (s.grantedTo p { Cursor.opened n f with phase := .asking }) := by
    rw [fillCheck_opened cursor readable frontier slot within reads,
      request_free (by exact free) (by exact idle) (by exact waits), grant, MediumPort.setWaits_waits _ (by exact waits)]
    rfl
  have begun := handle_granted_cursor.trans <|
    cursorGranted_seek (p := p) (n := n) (s := s.grantedTo p { Cursor.opened n f with phase := .asking }) rfl
    (by rw [State.cursor_grantedTo]) idle (by rw [State.cursor_grantedTo]; exact reads)
    (by rw [State.cursor_grantedTo]; exact pastFrontier_of_le frontier slot rfl within)
    (by rw [State.cursor_grantedTo]; rfl) (by rw [State.cursor_grantedTo]; rfl) elsewhere
  rw [asked, finish_raise (by exact quiet) begun quiet]
  simp only [State.cursor_grantedTo]
  simp [State.grantedTo, Cursor.opened, Cursor.reset, MediumPort.send, Config.opLimit]

end Opening

/-! ## The request -/

section Request

variable {s : State} {p : Port} {t : Tag} {b : List Byte} {st : Start} {f : Filter}

/-- A REPLAY_OPEN accepted at a CLOSED cursor: the DONE, and then the fill check (R123, R124). -/
theorem serve_replayOpen_closed (h : Ready s p t) (accepted : s.openRefusal st f = none)
    (closed : (s.cursor p).state = .closed) {c : Cursor}
    (derived : (Cursor.opened (st.position s.vom.frontierSlot) f).derive s.vom = c) :
    serve p t (.replayOpen st f) (s.receiving p t 11 b) = fillCheck p { s with
      ports := s.answered p t 11 .done (.position (st.position s.vom.frontierSlot)) s.marks
      cursors := s.cursors.set p c } := by
  have stays : closeCursor p true (s.receiving p t 11 b) = s.receiving p t 11 b := if_pos closed
  have set : deriveCursor p ((s.receiving p t 11 b).setCursor p (Cursor.opened (st.position s.vom.frontierSlot) f)) =
      (s.receiving p t 11 b).setCursor p c := by
    rw [deriveCursor, State.cursor_setCursor_same, State.setCursor_setCursor]
    exact congrArg ((s.receiving p t 11 b).setCursor p) derived
  have answer := replyWith_of_taken (k := 11) (b := b) h (by decide) .done
    (.position (st.position s.vom.frontierSlot)) false false (u := (s.receiving p t 11 b).setCursor p c) rfl rfl
  change replayOpen p t st f (s.receiving p t 11 b) = _
  rw [replayOpen_eq (by exact accepted), stays]
  change fillCheck p (reply p t .done (.position (st.position s.vom.frontierSlot)) (deriveCursor p
    ((s.receiving p t 11 b).setCursor p (Cursor.opened (st.position s.vom.frontierSlot) f)))) = _
  rw [set]
  exact congrArg (fillCheck p) answer

/-- The ports of a cursor's close with its pending NEXT, behind a request just taken (R135). -/
theorem answerNext_receiving {u : State} {k : Byte} (h : Ready s p t)
    (pending : (s.cursor p).next = none ∧ u = s ∨
      ∃ x, (s.cursor p).next = some x ∧ (s.slot p x).state ≠ .idle ∧ (s.port p).transmit.length < 11 ∧
        u = { s with ports := s.replied p x .aborted .empty (s.replyMarks p x) }) :
    answerNext p .aborted (s.receiving p t k b) = u.receiving p t k b ∧ Ready u p t := by
  obtain ⟨none_, rfl⟩ | ⟨x, next, busy, room, rfl⟩ := pending
  · exact ⟨by rw [answerNext, show (u.receiving p t k b).cursor p = u.cursor p from rfl, none_], h⟩
  · obtain ⟨⟨running, clear⟩, idle, -⟩ := h
    have apart : x ≠ t := fun same => busy (same ▸ idle)
    have receiving : (s.receiving p t k b).port p = { s.port p with
        up := true, activity := some 20, errors := 0, tags := (s.port p).tags.set t (TagSlot.dispatch k b) } := by
      simp [State.receiving, State.taken, State.port]
    have slot : (s.receiving p t k b).slot p x = s.slot p x := by
      simp [State.slot, HostPort.slot, receiving, Fin.val_ne_of_ne apart.symm]
    have can : CanReply (s.receiving p t k b) p x := by
      refine ⟨slot ▸ busy, by rw [receiving], by rw [receiving]; exact clear, ?_⟩
      rw [receiving]
      exact room.trans (by decide)
    refine ⟨?_, ⟨⟨running, ?_⟩, ?_, ?_⟩⟩
    · rw [answerNext, show (s.receiving p t k b).cursor p = s.cursor p from rfl, next]
      dsimp only
      rw [reply_now can]
      have commuted : ((s.port p).tags.set t (TagSlot.dispatch k b)).set x TagSlot.idle =
          ((s.port p).tags.set x TagSlot.idle).set t (TagSlot.dispatch k b) :=
        Vector.set_comm _ _ (Fin.val_ne_of_ne apart.symm)
      simp only [State.replied, State.replyMarks, receiving, slot, commuted]
      simp [State.receiving, State.taken, State.marks, State.low, State.port]
    · simpa [State.replied, State.port] using clear
    · simpa [State.slot, HostPort.slot, State.replied, State.port, Fin.val_ne_of_ne apart] using idle
    · simp [State.replied, State.port]
      exact Nat.succ_lt_succ room

/-- A REPLAY_OPEN accepted at an open cursor that does not hold the grant: the close comes first (R123, R135). -/
theorem serve_replayOpen_isOpen {u : State} (h : Ready s p t) (accepted : s.openRefusal st f = none)
    (isOpen : (s.cursor p).state ≠ .closed) (other : s.mpt.holder ≠ some (.cursor p)) (calm : s.ape.yield = false)
    (pending : (s.cursor p).next = none ∧ u = s ∨
      ∃ x, (s.cursor p).next = some x ∧ (s.slot p x).state ≠ .idle ∧ (s.port p).transmit.length < 11 ∧
        u = { s with ports := s.replied p x .aborted .empty (s.replyMarks p x) }) {c : Cursor}
    (derived : (Cursor.opened (st.position s.vom.frontierSlot) f).derive s.vom = c) :
    serve p t (.replayOpen st f) (s.receiving p t 11 b) = fillCheck p (freeBuffers (s.cursor p).buffered.length { s with
      ports := u.answered p t 11 .done (.position (st.position s.vom.frontierSlot)) s.marks
      mpt := s.mpt.without p
      cursors := s.cursors.set p c }) := by
  obtain ⟨answered, ready⟩ := answerNext_receiving (k := 11) (b := b) h pending
  have same : u = { s with ports := u.ports } := by
    obtain ⟨-, rfl⟩ | ⟨x, -, -, -, rfl⟩ := pending <;> rfl
  have closed : closeCursor p true (s.receiving p t 11 b) = freeBuffers (s.cursor p).buffered.length
      { u.receiving p t 11 b with mpt := s.mpt.without p, cursors := s.cursors.set p Cursor.reset } := by
    rw [closeCursor, if_neg (by exact isOpen), if_pos rfl, answered, dropCursor_other]
    · rw [same]
      rfl
    · rw [same]
      exact other
    · rw [same]
      exact calm
  have set : deriveCursor p ((closeCursor p true (s.receiving p t 11 b)).setCursor p
      (Cursor.opened (st.position s.vom.frontierSlot) f)) = freeBuffers (s.cursor p).buffered.length
      { u.receiving p t 11 b with mpt := s.mpt.without p, cursors := s.cursors.set p c } := by
    have vom : (freeBuffers (s.cursor p).buffered.length { u.receiving p t 11 b with
        mpt := s.mpt.without p, cursors := s.cursors.set p Cursor.reset }).vom = s.vom := by
      rw [(freeBuffers_keeps _ _).2.2.2.2.2.2.2.1, same]
      rfl
    rw [deriveCursor, State.cursor_setCursor_same, State.setCursor_setCursor, closed, State.setCursor_vom, vom, derived,
      freeBuffers_setCursor]
    simp [State.setCursor]
  have answer := replyWith_of_taken (k := 11) (b := b) ready (by decide) .done
    (.position (st.position s.vom.frontierSlot)) false false
    (u := freeBuffers (s.cursor p).buffered.length
      { u.receiving p t 11 b with mpt := s.mpt.without p, cursors := s.cursors.set p c })
    (freeBuffers_keeps _ _).2.2.2.1 (by simp [State.low, State.receiving])
  rw [freeBuffers_withPorts] at answer
  change replayOpen p t st f (s.receiving p t 11 b) = _
  rw [replayOpen_eq (by exact accepted)]
  change fillCheck p (reply p t .done (.position (st.position s.vom.frontierSlot)) (deriveCursor p
    ((closeCursor p true (s.receiving p t 11 b)).setCursor p (Cursor.opened (st.position s.vom.frontierSlot) f)))) = _
  rw [set]
  refine (congrArg (fillCheck p) answer).trans ?_
  rw [same]
  rfl

end Request

/-- Settles O54: the checks, the cursor with its state derived, and what its fill check meets at the arbiter. -/
theorem Settled.replayOpen : Obligations.ReplayOpen := by
  intro s p t b st f h gate len parsed
  have served := takeRequest_served (kind := 11) h len parsed fun _ => gate
  have refused {status : Status} (refusal : s.openRefusal st f = some status) :
      exec (.replayOpen p t b) s = .next (driveInhibit { s with ports := s.answered p t 11 status .empty s.marks }) := by
    refine finish_takeRequest_replied (k := 11) h len parsed (fun _ => gate) status .empty (s.receiving p t 11 b)
      ?_ rfl rfl rfl h.1.1.2
    change Machine.replayOpen p t st f (s.receiving p t 11 b) = _
    rw [Machine.replayOpen, show (s.receiving p t 11 b).openRefusal st f = some status from refusal]
  simp only [← VolumeRecord.readable_iff]
  refine ⟨fun unreadable => refused (openRefusal_unreadable (Bool.eq_false_of_not_eq_true unreadable)),
    fun readable bad => refused (openRefusal_bad readable bad), fun readable some_ none_ noSlot start closed => ?_,
    fun d sd n readable some_ frontier slot pos within reads => ?_⟩
  · have position : st.position s.vom.frontierSlot = 0 := by
      rw [noSlot]
      cases st with
      | first | tail => rfl
      | slot n => exact absurd rfl (start n)
    have opened := serve_replayOpen_closed (b := b) h
      (openRefusal_none readable some_ fun n slot => absurd slot (start n)) closed (derive_opened_frontier _ none_)
    rw [position] at opened
    change finish (takeRequest p t 11 b s) = _
    have cursor : ({ s with
        ports := s.answered p t 11 .done (.position 0) s.marks
        cursors := s.cursors.set p { Cursor.opened 0 f with state := .atFrontier } } : State).cursor p =
        { Cursor.opened 0 f with state := .atFrontier } := by simp [State.cursor]
    rw [served, opened, fillCheck_unwanted]
    · exact finish_quiet _ h.1.1.2
    · rw [cursor]
      exact fillWanted_pastFrontier (pastFrontier_iff.mpr (.inl none_))
    · rw [cursor]
      exact Phase.noConfusion
  · have position : st.position s.vom.frontierSlot = n := by
      rw [slot, pos]
      cases st <;> rfl
    have accepted : s.openRefusal st f = none := openRefusal_none readable some_ fun k start =>
      ⟨d, sd, frontier, slot, by rwa [show n = k by rw [pos, start]] at within⟩
    have derived : (Cursor.opened n f).derive s.vom = Cursor.opened n f := derive_opened frontier slot within
    have cursor : ({ s with
        ports := s.answered p t 11 .done (.position n) s.marks
        cursors := s.cursors.set p (Cursor.opened n f) } : State).cursor p = Cursor.opened n f := by simp [State.cursor]
    have opened (closed : (s.cursor p).state = .closed) :=
      serve_replayOpen_closed (b := b) h accepted closed (c := Cursor.opened n f) (by rw [position]; exact derived)
    rw [position] at opened
    change (∀ c, _ → _ → _ → _ → _ → finish (takeRequest p t 11 b s) = _) ∧
      (_ → _ → _ → _ → _ → finish (takeRequest p t 11 b s) = _) ∧
      (∀ c u, _ → _ → _ → _ → _ → _ → _ → _ → finish (takeRequest p t 11 b s) = _)
    rw [served]
    refine ⟨fun c closed held other waits early => ?_, fun closed free idle waits elsewhere => ?_,
      fun c u isOpen held other early calm empty awake pending => ?_⟩
    · rw [opened closed, fillCheck_opened_waits cursor readable frontier slot within reads held other waits early]
      exact finish_of_eq (by simp [Cursor.opened]) h.1.1.2
    · rw [opened closed, finish_opened_granted cursor readable frontier slot within reads free idle waits elsewhere h.1.1.2]
      simp [Cursor.opened]
    · obtain ⟨k, free⟩ : ∃ k, k = (s.cursor p).buffered.length := ⟨_, rfl⟩
      have reopened := serve_replayOpen_isOpen (b := b) h accepted isOpen (by simp [held, other]) calm pending
        (c := Cursor.opened n f) (by rw [position]; exact derived)
      rw [position, ← free] at reopened
      have waits := fillCheck_opened_waits (p := p) (d := d) (sd := sd) (n := n) (f := f) (c := c)
        (s := freeBuffers k { s with
          ports := u.answered p t 11 .done (.position n) s.marks
          mpt := s.mpt.without p
          cursors := s.cursors.set p (Cursor.opened n f) })
        (by simp [State.cursor]) (by simpa using readable) (by simpa using frontier) (by simpa using slot) within
        (by simpa using reads) (by simpa [MediumPort.without] using held) other
        (by simp [MediumPort.without, MediumPort.waits]) (by simpa [MediumPort.without] using early)
      rw [reopened, waits]
      refine (finish_freeBuffers (k := k) (u := { s with
        ports := u.answered p t 11 .done (.position n) s.marks
        mpt := { s.mpt.without p with cursorWaits := s.mpt.cursorWaits.set p true }
        cursors := s.cursors.set p { Cursor.opened n f with phase := .asking } }) ?_ h.1.1.2 ⟨empty, ?_⟩).trans ?_
      · unfold freeBuffers
        split <;> simp [MediumPort.without, raise]
      · intro q
        change ((s.setCursor p { Cursor.opened n f with phase := .asking }).cursor q).phase ≠ .starved
        rw [State.cursor_setCursor]
        split_ifs with same
        · exact Phase.noConfusion
        · exact awake q fun eq => same eq.symm
      · simp only [free, List.length_eq_zero_iff]
        rfl

/-! Leaving the admission queue otherwise: the deadline (R26), and ABORT by the state of its tag (R34, R168). -/

/-! ## An entry leaves the queue (R26, R34) -/

section Leaving

variable {s : State} {e : Entry} {before after : List Entry}

theorem isOf_iff {p : Port} {t : Tag} {e : Entry} : e.isOf p t = true ↔ e.port = p ∧ e.tag = t := by simp [Entry.isOf]

/-- The one entry of a port and a tag leaves its place; where it was the head, the next one is to be evaluated. -/
theorem removeEntries_one {p : Port} {t : Tag} (queue : s.adu.queue = before ++ e :: after) (port : e.port = p)
    (tag : e.tag = t) (only : ∀ x ∈ before ++ after, ¬(x.port = p ∧ x.tag = t)) (whenHead : State → State) :
    removeEntries (Entry.isOf p t) whenHead s =
      if before = [] ∧ after ≠ [] then whenHead (s.setQueue (before ++ after)) else s.setQueue (before ++ after) := by
  have named : e.isOf p t = true := isOf_iff.mpr ⟨port, tag⟩
  have others : ∀ x ∈ before ++ after, x.isOf p t = false := fun x mem =>
    Bool.eq_false_of_not_eq_true fun named => only x mem (isOf_iff.mp named)
  have keep : ∀ l : List Entry, (∀ x ∈ l, x.isOf p t = false) → l.filter (fun e => !e.isOf p t) = l := fun l kept =>
    List.filter_eq_self.mpr fun x mem => by rw [kept x mem]; rfl
  have rest : s.adu.queue.filter (fun e => !e.isOf p t) = before ++ after := by
    rw [queue, List.filter_append, List.filter_cons_of_neg (by simp [named]),
      keep before fun x mem => others x (List.mem_append_left _ mem),
      keep after fun x mem => others x (List.mem_append_right _ mem)]
  have first : (s.adu.queue.head?.any (Entry.isOf p t)) = true ↔ before = [] := by
    rw [queue]
    cases before with
    | nil => simp [named]
    | cons x before => simp [others x (by simp)]
  unfold removeEntries
  dsimp only
  rw [rest]
  refine if_congr ?_ rfl rfl
  rw [first]
  exact and_congr_right fun none_ => by rw [none_, List.nil_append]

/-- An evaluation of a head that no test refuses and that finds no buffer for its record (R21). -/
theorem evalHead_waits {n : Entry} {rest : List Entry} (queue : s.adu.queue = n :: rest) (closed : s.pool.opened = none)
    (none_ : s.pool.free = 0) (makes : s.makesRecord n.request) (passed : s.writingRefusal n.port n.request = none) :
    evalHead s = s.setQueue ({ n with held := true } :: rest) := by
  have needs : s.needsBlock n.request.foot = true := by simp [State.needsBlock, closed]
  have held : s.verdict n.port n.request = .held := by
    rw [State.verdict_passed passed makes, if_pos ⟨needs, none_⟩]
  rw [evalHead_held queue held, sealBlock_none .full closed]

/-- The end of a step in which an entry has left the queue, and the next one waits for a buffer if it came to the head. -/
theorem finish_queueAfter {u : State} {queue : List Entry} (quiet : u.signals = [])
    (queued : QueueAfter u before after queue) :
    finish (if before = [] ∧ after ≠ [] then raise .head (u.setQueue (before ++ after)) else u.setQueue (before ++ after)) =
      .next (driveInhibit (u.setQueue queue)) := by
  obtain ⟨stays, rfl⟩ | ⟨n, rest, rfl, rfl, closed, none_, makes, passed, rfl⟩ := queued
  · have noHead : ¬(before = [] ∧ after ≠ []) := fun ⟨first, some_⟩ => stays.elim (· first) some_
    rw [if_neg noHead]
    exact finish_quiet _ quiet
  · rw [if_pos ⟨rfl, List.cons_ne_nil n rest⟩, List.nil_append]
    have waits := evalHead_waits (s := u.setQueue (n :: rest)) rfl closed none_ makes passed
    exact finish_raise quiet (u := u.setQueue ({ n with held := true } :: rest)) waits quiet

end Leaving

/-- An entry that can be replied to leaves the queue refused (R26, R34). -/
theorem finish_refuseEntry {s : State} {e : Entry} {before after queue : List Entry} {st : Status} (quiet : s.signals = [])
    (queue_ : s.adu.queue = before ++ e :: after) (only : ∀ x ∈ before ++ after, ¬(x.port = e.port ∧ x.tag = e.tag))
    (can : CanReply s e.port e.tag) (queued : QueueAfter s before after queue) :
    finish (refuseEntry e.port e.tag st s) = .next (driveInhibit { s with
      ports := s.replied e.port e.tag st .empty (s.replyMarks e.port e.tag), adu := { s.adu with queue := queue } }) := by
  rw [refuseEntry, reply_now can, removeEntries_one (by exact queue_) rfl rfl only]
  exact finish_queueAfter (u := { s with ports := s.replied e.port e.tag st .empty (s.replyMarks e.port e.tag) }) quiet queued

/-- A reply leaves the slots of other tags as they are. -/
theorem slot_replied_other {s : State} {p q : Port} {t x : Tag} {st : Status} {body : ReplyBody} {i : Indicators}
    (other : ¬(q = p ∧ x = t)) :
    ({ s with ports := s.replied p t st body i } : State).slot q x = s.slot q x := by
  by_cases port : q = p
  · subst port
    have tag : x ≠ t := fun same => other ⟨rfl, same⟩
    simp [State.slot, HostPort.slot, State.port, State.replied, Fin.val_ne_of_ne tag.symm]
  · simp [State.slot, HostPort.slot, State.port, State.replied, Fin.val_ne_of_ne (Ne.symm port)]

/-- Settles O31: the entry is replied STALLED, and what comes to the head is evaluated. -/
theorem deadlineExpiry : Obligations.DeadlineExpiry := by
  intro s u before e after quiet queue_ only replied
  have named : e.isOf e.port e.tag = true := isOf_iff.mpr ⟨rfl, rfl⟩
  have others : ∀ x ∈ before ++ after, x.isOf e.port e.tag = false := fun x mem =>
    Bool.eq_false_of_not_eq_true fun named => only x mem (isOf_iff.mp named)
  have runs : (s.adu.queue.any fun x => x.isOf e.port e.tag && x.deadline.isSome) = e.deadline.isSome := by
    have none_ : ∀ l : List Entry, (∀ x ∈ l, x.isOf e.port e.tag = false) →
        (l.any fun x => x.isOf e.port e.tag && x.deadline.isSome) = false := fun l kept =>
      List.any_eq_false.mpr fun x mem => by simp [kept x mem]
    rw [queue_, List.any_append, List.any_cons, named, none_ before fun x mem => others x (List.mem_append_left _ mem),
      none_ after fun x mem => others x (List.mem_append_right _ mem)]
    simp
  have expires (running : e.deadline ≠ none) :
      exec (.deadlineExpiry e.port e.tag) s = finish (refuseEntry e.port e.tag .stalled s) := by
    change finish (deadlineExpired e.port e.tag s) = _
    rw [deadlineExpired, runs, if_pos (Option.isSome_iff_ne_none.mpr running)]
  refine ⟨fun running can queue queued => ?_, fun running can n st first last canNext refusal => ?_, fun stopped => ?_⟩
  · rw [expires running, finish_refuseEntry quiet queue_ only can queued, replied]
  · subst first last
    have apart : ¬(n.port = e.port ∧ n.tag = e.tag) := only n (by simp)
    have verdict : (u.setQueue [n]).verdict n.port n.request = .refused st := by
      rw [replied]
      exact State.verdict_refused refusal
    have refused : evalHead (u.setQueue [n]) = { u with
        ports := u.replied n.port n.tag st .empty (u.replyMarks n.port n.tag), adu := { s.adu with queue := [] } } := by
      have answer := reply_now (s := u.setQueue []) canNext (st := st) (body := .empty)
      rw [evalHead_refused (rest := []) rfl verdict]
      refine (evalNext_empty (by simp [State.setQueue])).trans (answer.trans ?_)
      rw [replied]
      rfl
    have marks : u.replyMarks n.port n.tag = { s.marks with
        clockUnset := (s.slot n.port n.tag).kindByte == 1 && s.adu.clock.isNone } := by
      rw [State.replyMarks, replied, slot_replied_other apart]
      rfl
    rw [expires running, refuseEntry, reply_now can, removeEntries_one (by exact queue_) rfl rfl only,
      if_pos ⟨rfl, List.cons_ne_nil n []⟩, List.nil_append, ← marks]
    rw [replied] at refused ⊢
    exact finish_raise quiet refused quiet
  · change finish (deadlineExpired e.port e.tag s) = _
    rw [deadlineExpired, runs, stopped]
    exact finish_quiet s quiet

/-! ## ABORT (R168) -/

/-- A good frame at a port where nothing waits (R162, R164). -/
theorem goodFrame_hear {s : State} {p : Port} (clear : (s.port p).waiting = []) :
    goodFrame p (hear p s) = { s with ports := s.heard p } := by
  rw [hear_clear p s clear, goodFrame, State.port_setPort_same, State.setPort_setPort]
  rfl

theorem slot_heard (s : State) (p : Port) (t : Tag) : ({ s with ports := s.heard p } : State).slot p t = s.slot p t := by
  simp [State.slot, HostPort.slot, State.port, State.heard]

theorem canReply_heard {s : State} {p : Port} {t : Tag} (clear : (s.port p).waiting = []) (busy : (s.slot p t).state ≠ .idle)
    (room : (s.port p).transmit.length < 12) : CanReply { s with ports := s.heard p } p t := by
  refine ⟨by rwa [slot_heard], ?_, ?_, ?_⟩
  · simp [State.port, State.heard]
  · simpa [State.port, State.heard] using clear
  · simpa [State.port, State.heard] using room

/-- Settles O32, by the state of the tag. -/
theorem abortRequest : Obligations.AbortRequest := by
  rintro s h p t ⟨⟨run, quiet⟩, clear⟩ rfl
  have aborts : exec (.abort p t) s = finish (takeAbort p t { s with ports := s.heard p }) := by
    change finish (whenRunning (fun s => takeAbort p t (goodFrame p (hear p s))) s) = _
    rw [whenRunning_running _ _ run, goodFrame_hear clear]
  have marks : ({ s with ports := s.heard p } : State).replyMarks p t =
      { s.marks with clockUnset := (s.slot p t).kindByte == 1 && s.adu.clock.isNone } := by
    rw [State.replyMarks, slot_heard]
    rfl
  have can (busy : (s.slot p t).state ≠ .idle) (room : (s.port p).transmit.length < 12) := canReply_heard clear busy room
  rw [aborts, takeAbort, slot_heard, ← marks]
  refine ⟨fun queued room before e after queue queue_ port tag only after_ => ?_, fun waits room => ?_,
    fun pending next room => ?_, fun ignored => ?_⟩
  · subst port tag
    rw [queued]
    exact finish_refuseEntry (s := { s with ports := s.heard e.port }) quiet queue_ only
      (can (by rw [queued]; exact TagState.noConfusion) room) after_
  · have reply_ := reply_now (s := dropWaiters (fun w => w == (p, t)) { s with ports := s.heard p })
      (can (by rw [waits]; exact TagState.noConfusion) room) (st := .aborted) (body := .rsn (s.slot p t).rsn)
    rw [waits]
    dsimp only
    rw [abortWaiter, slot_heard]
    refine finish_of_eq (reply_.trans ?_) quiet
    have gone : (fun w : Port × Tag => !(w == (p, t))) = fun w => decide (w ≠ (p, t)) := by
      funext w
      rw [Bool.eq_iff_iff]
      simp
    rw [dropWaiters, gone]
    rfl
  · rw [pending]
    dsimp only
    rw [if_pos (by exact next)]
    exact finish_of_eq (reply_now (s := ({ s with ports := s.heard p } : State).setCursor p (s.cursor p).noNext)
      (can (by rw [pending]; exact TagState.noConfusion) room)) quiet
  · obtain idle | replying | ⟨pending, other⟩ := ignored
    · rw [idle]
      exact finish_quiet _ quiet
    · rw [replying]
      exact finish_quiet _ quiet
    · rw [pending]
      dsimp only
      rw [if_neg (by exact other)]
      exact finish_quiet _ quiet

/-! The Append Engine: its writes and seeks (R77 to R83), the start of a burst, the end of a write, and the yield of the grant. -/

/-! ## The write check (R79) -/

/-- A state after the engine, RUNNING, has issued the write of the head of its queue at slot n. -/
def State.withWrite (s : State) (b : Block) (rest : List Block) (n : Nat) : State :=
  { s with
    pool := { s.pool with sealed := rest }
    ape := { s.ape with state := .running, inWrite := some { block := b.returned, slot := n, stale := false } }
    vom := { s.vom with appendPoint := some (n + 1) }
    mpt := { s.mpt.send (.write n b.image) .engine false with writes := s.mpt.writes + 1 } }

/-- A state after the engine has asked for a SEEK to slot n. -/
def State.withSeek (s : State) (n : Nat) : State :=
  { s with ape := { s.ape with state := .positioning }, mpt := s.mpt.send (.seek n) .engine false }

/-- What the engine needs to write: nothing in hand, room in its list, P below C, and no yield asked for. -/
structure CanWrite (s : State) (n c : Nat) : Prop where
  link : s.mpt.link = none
  inWrite : s.ape.inWrite = none
  room : s.ape.unverified.length < 3
  calm : s.ape.yield = false
  point : s.vom.appendPoint = some n
  capacity : s.vom.capacity = some c
  below : n < c

section Writing

variable {s : State} {b : Block} {rest : List Block} {n c : Nat}

theorem cursorWaiting_false {m : MediumPort} (none_ : ∀ p : Port, m.cursorWaits[p] = false) : m.cursorWaiting = false := by
  rw [MediumPort.cursorWaiting, List.any_eq_false]
  intro w mem
  obtain ⟨i, lt, rfl⟩ := Vector.mem_iff_getElem.mp (Vector.mem_toList_iff.mp mem)
  simpa using none_ ⟨i, lt⟩

/-- A write leaves R as it is: P rises by 1 and the queue is one block shorter (R105). -/
theorem withWrite_remainingNow (sealed_ : s.pool.sealed = b :: rest) (point : s.vom.appendPoint = some n) :
    (s.withWrite b rest n).remainingNow = s.remainingNow := by
  unfold State.remainingNow State.withWrite
  dsimp only
  rw [point, sealed_]
  cases s.vom.capacity with
  | none => rfl
  | some c =>
    dsimp only
    refine congrArg some ?_
    simp
    omega

theorem writeHead_eq (can : CanWrite s n c) (running : s.ape.state = .running) (sealed_ : s.pool.sealed = b :: rest)
    (now : s.vom.remaining = s.remainingNow) (none_ : ∀ p : Port, s.mpt.cursorWaits[p] = false) :
    writeHead b rest s = s.withWrite b rest n := by
  have point : s.appendPoint = n := by rw [State.appendPoint, can.point, Option.getD_some]
  have quiet : ∀ u : State, u.mpt.cursorWaits = s.mpt.cursorWaits → yieldCheck u = u := fun u same =>
    if_neg fun ⟨_, waiting, _⟩ => by
      rw [cursorWaiting_false (same ▸ none_)] at waiting
      exact Bool.noConfusion waiting
  have issued : issueWrite n b.image { s with
        pool := { s.pool with sealed := rest }
        ape := { s.ape with inWrite := some { block := b.returned, slot := n, stale := false } }
        vom := { s.vom with appendPoint := some (n + 1) } } = s.withWrite b rest n := by
    rw [issueWrite, issue_idle (by exact can.link), quiet]
    · rw [State.withWrite, ← running]
      rfl
    · rfl
  rw [writeHead]
  dsimp only
  rw [point, issued]
  exact recomputeR_same (now.trans (withWrite_remainingNow sealed_ can.point).symm)

theorem seekToP_eq (idle : s.mpt.link = none) (point : s.vom.appendPoint = some n) : seekToP s = s.withSeek n := by
  have at_ : s.appendPoint = n := by rw [State.appendPoint, point, Option.getD_some]
  rw [seekToP, at_, issue_idle (by exact idle)]
  rfl

theorem mediumFull_false (point : s.vom.appendPoint = some n) (capacity : s.vom.capacity = some c) (below : n < c) :
    s.mediumFull = false := by
  simp [State.mediumFull, State.appendPoint, point, capacity, below]

theorem writeCheck_blocked (can : CanWrite s n c) (running : s.ape.state = .running) (sealed_ : s.pool.sealed = b :: rest) :
    writeCheck s = if s.mpt.head = some n then writeHead b rest s else s.withSeek n := by
  have point : s.appendPoint = n := by rw [State.appendPoint, can.point, Option.getD_some]
  unfold writeCheck
  rw [sealed_]
  dsimp only
  rw [if_pos ⟨running, can.inWrite, can.room, can.calm⟩, mediumFull_false can.point can.capacity can.below,
    if_neg Bool.false_ne_true, point, seekToP_eq can.link can.point]

theorem writeCheck_empty (empty : s.pool.sealed = []) : writeCheck s = s := by
  unfold writeCheck
  rw [empty]

theorem burstEnd_busy (busy : s.burstOver = false) : burstEnd s = s := if_neg fun ⟨_, over_⟩ => by simp [busy] at over_

theorem burstEnd_positioning (state : s.ape.state = .positioning) : burstEnd s = s :=
  if_neg fun ⟨either, _⟩ => by simp [state] at either

theorem engineSettle_running (running : s.ape.state = .running) (calm : s.ape.yield = false) :
    engineSettle s = burstEnd (writeCheck s) := by
  rw [engineSettle, if_pos running, if_neg (by simp [calm])]

/-- A RUNNING engine at P writes the head of its queue. -/
theorem engineSettle_writes (can : CanWrite s n c) (running : s.ape.state = .running) (sealed_ : s.pool.sealed = b :: rest)
    (now : s.vom.remaining = s.remainingNow) (none_ : ∀ p : Port, s.mpt.cursorWaits[p] = false) (there : s.mpt.head = some n) :
    engineSettle s = s.withWrite b rest n := by
  rw [engineSettle_running running can.calm, writeCheck_blocked can running sealed_, if_pos there,
    writeHead_eq can running sealed_ now none_]
  exact burstEnd_busy (by simp [State.burstOver, State.withWrite])

/-- A RUNNING engine whose head position is elsewhere seeks P. -/
theorem engineSettle_seeks (can : CanWrite s n c) (running : s.ape.state = .running) (sealed_ : s.pool.sealed = b :: rest)
    (elsewhere : s.mpt.head ≠ some n) : engineSettle s = s.withSeek n := by
  rw [engineSettle_running running can.calm, writeCheck_blocked can running sealed_, if_neg elsewhere]
  exact burstEnd_positioning rfl

end Writing

/-! ## The start of a burst (R77, R78) -/

section Starting

variable {s : State} {b : Block} {rest : List Block} {n c : Nat}

/-- A state whose engine has just been given a grant that nobody held. -/
def State.engineHolds (s : State) : State :=
  { s with mpt := { s.mpt with holder := some .engine, engineWaits := false, burstLimit := some s.params.burstMax } }

theorem startEval_free (idle : s.ape.state = .idle) (counting : s.vom.counting = true) (wanted : s.startWanted = true)
    (free : s.mpt.holder = none) (link : s.mpt.link = none) (waits : s.mpt.engineWaits = false) :
    startEval s = raise (.granted .engine) (s.setEngine .waitGrant).engineHolds := by
  rw [startEval, if_pos ⟨idle, counting, wanted⟩, request_free (by exact free) (by exact link) (by exact waits)]
  rfl

/-- The engine is given the grant, and its head position is elsewhere (R78). -/
theorem engineGranted_seeks (held : s.mpt.holder = some .engine) (waits : s.ape.state = .waitGrant ∨ s.ape.state = .yielded)
    (some_ : s.pool.sealed ≠ []) (link : s.mpt.link = none) (point : s.vom.appendPoint = some n)
    (capacity : s.vom.capacity = some c) (below : n < c) (elsewhere : s.mpt.head ≠ some n) :
    engineGranted s = s.withSeek n := by
  have at_ : s.appendPoint = n := by rw [State.appendPoint, point, Option.getD_some]
  rw [engineGranted, if_pos ⟨held, waits⟩, if_pos ⟨some_, mediumFull_false point capacity below, by rwa [at_]⟩,
    seekToP_eq link point]

/-- The engine is given the grant with its head at P (R78). -/
theorem engineGranted_runs (held : s.mpt.holder = some .engine) (waits : s.ape.state = .waitGrant ∨ s.ape.state = .yielded)
    (point : s.vom.appendPoint = some n) (there : s.mpt.head = some n) :
    engineGranted s = engineSettle (s.setEngine .running) := by
  have at_ : s.appendPoint = n := by rw [State.appendPoint, point, Option.getD_some]
  rw [engineGranted, if_pos ⟨held, waits⟩, if_neg fun ⟨_, _, elsewhere⟩ => elsewhere (by rwa [at_])]

end Starting

/-- The expiry of the start-age timer of the block at the head of the queue (R49). -/
theorem startAgeExpired_head {s : State} {b : Block} {rest : List Block} (sealed_ : s.pool.sealed = b :: rest)
    (timer : b.ageTimer ≠ none) (others : ∀ x ∈ rest, x.bsn ≠ b.bsn) :
    startAgeExpired b.bsn s = raise .startCheck { s with pool := { s.pool with
      sealed := { b with ageTimer := none, aged := true } :: rest } } := by
  have runs : (s.pool.sealed.any fun x => x.bsn == b.bsn && x.ageTimer.isSome) = true := by
    rw [sealed_, List.any_cons, Option.isSome_iff_ne_none.mpr timer]
    simp
  have aged : s.pool.sealed.map (fun x => if x.bsn = b.bsn then { x with ageTimer := none, aged := true } else x) =
      { b with ageTimer := none, aged := true } :: rest := by
    rw [sealed_, List.map_cons, if_pos rfl]
    exact congrArg _ ((List.map_congr_left fun x mem => if_neg (others x mem)).trans (List.map_id' _))
  rw [startAgeExpired, if_pos runs, aged]

/-- Settles O36: the aged block starts a burst, whose grant comes at once. -/
theorem ageStartsBurst : Obligations.AgeStartsBurst := by
  intro s b rest pt c m quiet sealed_ timer others idle noWrite room calm ready point capacity below now free link none_
  obtain ⟨u, started⟩ : ∃ u : State, u = { s with pool := { s.pool with
      sealed := { b with ageTimer := none, aged := true } :: rest } } := ⟨_, rfl⟩
  have aged : exec (.startAgeExpiry b.bsn) s = finish (raise .startCheck u) := by
    change finish (startAgeExpired b.bsn s) = _
    rw [startAgeExpired_head sealed_ timer others, started]
  have granted : handle .startCheck u = raise (.granted .engine) (u.setEngine .waitGrant).engineHolds := by
    have wanted : u.startWanted = true := by simp [State.startWanted, started]
    have begun := startEval_free (s := u) (by rw [started]; exact idle)
      (by rw [started]; simp [VolumeRecord.counting, ready]) wanted (by rw [started]; exact free)
      (by rw [started]; exact link) (by rw [started]; exact none_.2.1)
    have state : u.ape.state = .idle := by rw [started]; exact idle
    change engineStart u = _
    rw [engineStart, state]
    exact begun
  have ends {v : State} (acts : engineGranted (u.setEngine .waitGrant).engineHolds = v) (still : v.signals = []) :
      exec (.startAgeExpiry b.bsn) s = .next (driveInhibit v) := by
    have quiet' : u.signals = [] := by rw [started]; exact quiet
    rw [aged]
    refine finish_of_settles ((Settles.raised quiet' granted).trans (Settles.raised (by exact quiet') ?_)) still
    exact acts
  constructor
  · intro elsewhere
    have seeks := engineGranted_seeks (s := (u.setEngine .waitGrant).engineHolds) (n := pt) (c := c) rfl (.inl rfl)
      (by rw [started]; exact List.cons_ne_nil _ _) (by rw [started]; exact link) (by rw [started]; exact point)
      (by rw [started]; exact capacity) below (by rw [started]; exact elsewhere)
    refine (ends seeks (by rw [started]; exact quiet)).trans ?_
    rw [started]
    simp [State.withSeek, State.engineHolds, MediumPort.send, Config.opLimit, none_.2.1]
  · intro there
    have can : CanWrite (((u.setEngine .waitGrant).engineHolds).setEngine .running) pt c := by
      rw [started]
      exact ⟨link, noWrite, room, calm, point, capacity, below⟩
    have same : s.vom.remaining = s.remainingNow := now.1.trans now.2.symm
    have writes := engineSettle_writes (b := { b with ageTimer := none, aged := true }) (rest := rest) can rfl
      (by rw [started]; rfl)
      (by rw [started]; exact same.trans (by simp [State.remainingNow, State.engineHolds, sealed_]))
      (by rw [started]; exact none_.2.2) (by rw [started]; exact there)
    have runs := engineGranted_runs (s := (u.setEngine .waitGrant).engineHolds) (n := pt) rfl (.inl rfl)
      (by rw [started]; exact point) (by rw [started]; exact there)
    refine (ends (runs.trans writes) (by rw [started]; exact quiet)).trans ?_
    rw [started]
    simp [State.withWrite, State.engineHolds, MediumPort.send, Config.opLimit, none_.2.1, Block.returned, Block.image]

/-! ## Relocation (R85) -/

section Relocating

variable {s : State} {before later : List Unverified} {u : Unverified}

/-- The first entry for a slot stands at its place. -/
theorem findSlot_eq {slot : Nat} (entries : s.ape.unverified = before ++ u :: later) (named : u.slot = slot)
    (first : ∀ x ∈ before, x.slot ≠ slot) : s.ape.findSlot slot = some before.length := by
  rw [Engine.findSlot, entries, List.findIdx?_append, List.findIdx?_eq_none_iff.mpr (by simpa using first)]
  simp [List.findIdx?_cons, named]

theorem entry_at (entries : s.ape.unverified = before ++ u :: later) : s.ape.unverified[before.length]? = some u := by
  simp [entries]

/-- The state after a relocation run, before the checks that follow it. -/
def State.relocated (s : State) (before : List Unverified) (u : Unverified) (later : List Unverified) : State :=
  { s with
    ape := { s.ape with unverified := before, inWrite := s.ape.inWrite.map fun w => { w with stale := true } }
    pool := { s.pool with sealed :=
      { u.block with attempts := u.block.attempts + 1 } :: later.map (fun v => v.block) ++ s.pool.sealed } }

theorem relocate_eq (entries : s.ape.unverified = before ++ u :: later) :
    relocate before.length s = afterFailure (u.block.attempts + 1) (recomputeR (s.relocated before u later)) := by
  have at_ : s.ape.unverified.drop before.length = u :: later := by simp [entries]
  have ahead : s.ape.unverified.take before.length = before := by simp [entries]
  rw [relocate, at_]
  dsimp only
  rw [ahead]
  rfl

/-- R falls by the number of blocks relocated (R105). -/
theorem relocated_remainingNow {m : Int} (now : s.remainingNow = some m) :
    (s.relocated before u later).remainingNow = some (m - (1 + later.length)) := by
  unfold State.remainingNow at now ⊢
  unfold State.relocated
  dsimp only at now ⊢
  split at now
  next c p capacity point =>
    have value := Option.some.inj now
    refine congrArg some ?_
    simp
    omega
  next => cases now

theorem relocate_stays {m : Int} (entries : s.ape.unverified = before ++ u :: later) (counting : s.vom.counting = true)
    (now : RemainingIs s m) (stays : LevelStays s (m - (1 + later.length))) :
    relocate before.length s = afterFailure (u.block.attempts + 1) { s.relocated before u later with
      vom := { s.vom with remaining := some (m - (1 + later.length)) } } := by
  rw [relocate_eq entries]
  exact congrArg _ (recomputeR_stays (s := s.relocated before u later) counting (relocated_remainingNow now.2) stays)

end Relocating

theorem afterFailure_below {n : Nat} {s : State} (few : n < 10) : afterFailure n s = engineSettle s :=
  if_neg (Nat.not_le.mpr few)

theorem exec_verifyResult {s : State} (run : s.ctl.test = .running) (slot : BitVec 32) (pass : Bool) :
    exec (.verifyResult slot pass) s = finish (verifyReport slot.toNat pass s) := by
  change finish (byMode (verifyReport slot.toNat pass) id s) = _
  rw [byMode, run]

/-- A failed verify relocates from its entry (R84, R85). -/
theorem verifyReport_fails {s : State} {slot : Nat} {before later : List Unverified} {u : Unverified}
    (entries : s.ape.unverified = before ++ u :: later) (named : u.slot = slot) (first : ∀ x ∈ before, x.slot ≠ slot)
    (fresh : u.passed = false) : verifyReport slot false s = relocate before.length s := by
  rw [verifyReport, findSlot_eq entries named first]
  dsimp only
  rw [entry_at entries]
  dsimp only
  rw [if_neg (by simp [fresh]), if_pos rfl]

/-- Settles O39: the report and the expiry start the same relocation run. -/
theorem verifyRelocates : Obligations.VerifyRelocates := by
  intro s slot before u later m ⟨run, quiet⟩ entries named first few mid counting now stays
  have relocates : finish (relocate before.length s) = .next (driveInhibit { s.relocated before u later with
      vom := { s.vom with remaining := some (m - (1 + later.length)) } }) := by
    rw [relocate_stays entries counting now stays, afterFailure_below few]
    obtain ⟨running, writing, calm⟩ := mid
    refine finish_of_eq (engineSettle_midWrite ⟨running, ?_, calm⟩) quiet
    simpa [State.relocated] using writing
  refine ⟨fun fresh => ?_, fun running => ?_⟩
  · rw [exec_verifyResult run, verifyReport_fails entries named first fresh]
    exact relocates
  · change finish (verifyExpired slot.toNat s) = _
    rw [verifyExpired, findSlot_eq entries named first]
    dsimp only
    rw [entry_at entries]
    dsimp only [Option.bind_some]
    rw [if_pos (Option.isSome_iff_ne_none.mpr running)]
    exact relocates

/-! The end of a write (R81 to R83), with the yield of the grant to a waiting cursor (R72 to R74, R91). -/

/-! ## The ends of an operation of a client that holds the grant -/

/-- An accepted completion of a client that goes on holding the grant, or leaves nobody asking for it. -/
theorem finish_completion {s u v : State} {n : Byte} {kind : DriveOp → Bool} {o : Outstanding} (linked : s.mpt.link = some o)
    (number : o.number = n) (isKind : kind o.op = true) {head : Outstanding → Option Nat}
    {act : Outstanding → State → State} (acts : act o (endOperation (head o) s) = u) (hands : handOver u = v)
    (quiet : v.signals = []) : finish (completion n kind head act s) = .next (driveInhibit v) := by
  rw [completion_accepted linked number isKind, acts, hands]
  exact finish_quiet v quiet

/-! ## The next cursor in turn (R74) -/

theorem nextCursor_eq {m : MediumPort} {q : Port} (waits : m.cursorWaits[q] = true)
    (nearest : ∀ r : Port, m.cursorWaits[r] = true → (q - m.lastServed - 1).val ≤ (r - m.lastServed - 1).val) :
    m.nextCursor = some q := by
  obtain ⟨l, served⟩ : ∃ l, l = m.lastServed := ⟨_, rfl⟩
  rw [← served] at nearest
  have passed (r : Port) (before : (r - l - 1).val < (q - l - 1).val) : m.cursorWaits[r] = false :=
    Bool.eq_false_of_not_eq_true fun waits => Nat.not_le.mpr before (nearest r waits)
  have turn : ∀ q l : Port, q = l + 1 ∨ q = l + 2 ∨ q = l + 3 ∨ q = l := by decide
  have order : ∀ l : Port, (l + 1 - l - 1).val = 0 ∧ (l + 2 - l - 1).val = 1 ∧ (l + 3 - l - 1).val = 2 ∧
    (l - l - 1).val = 3 := by decide
  obtain ⟨first, second, third, fourth⟩ := order l
  rw [MediumPort.nextCursor, portsAfter, ← served]
  obtain rfl | rfl | rfl | rfl := turn q l
  · rw [List.find?_cons_of_pos (p := fun p : Port => m.cursorWaits[p]) (by simpa using waits)]
  · rw [List.find?_cons_of_neg (by simp [passed (l + 1) (by omega)]), List.find?_cons_of_pos (by simpa using waits)]
  · rw [List.find?_cons_of_neg (by simp [passed (l + 1) (by omega)]),
      List.find?_cons_of_neg (by simp [passed (l + 2) (by omega)]), List.find?_cons_of_pos (by simpa using waits)]
  · rw [List.find?_cons_of_neg (by simp [passed (q + 1) (by omega)]),
      List.find?_cons_of_neg (by simp [passed (q + 2) (by omega)]),
      List.find?_cons_of_neg (by simp [passed (q + 3) (by omega)]), List.find?_cons_of_pos (by simpa using waits)]

theorem cursorWaiting_of_waits {m : MediumPort} {q : Port} (waits : m.cursorWaits[q] = true) : m.cursorWaiting = true :=
  List.any_eq_true.mpr ⟨m.cursorWaits[q], Vector.mem_toList_iff.mpr (Vector.getElem_mem q.isLt), waits⟩

/-- Behind a full burst a waiting cursor comes before the engine (R72). -/
theorem choose_cursor {m : MediumPort} {q : Port} (volume : m.volumeWaits = false) (done : m.burstDone = true)
    (waits : m.cursorWaits[q] = true) (next : m.nextCursor = some q) : m.choose = some (.cursor q) := by
  rw [MediumPort.choose, volume, cursorWaiting_of_waits waits, done, next]
  simp

/-! ## The write ends (R81 to R83) -/

/-- A state whose engine has nothing in hand. -/
def State.emptied (s : State) : State := { s with ape := { s.ape with inWrite := none } }

/-- A state whose engine has put the block it wrote on the list of the unverified ones. -/
def State.landed (s : State) (w : InWrite) : State :=
  { s with ape := { s.ape with
    inWrite := none
    unverified := s.ape.unverified ++ [{ block := w.block, slot := w.slot, timer := some 500, passed := false }] } }

/-- A state with another sealed queue and another R. -/
def State.queued (s : State) (sealed_ : List Block) (m : Int) : State :=
  { s with pool := { s.pool with sealed := sealed_ }, vom := { s.vom with remaining := some m } }

section WriteEnds

variable {s : State} {w : InWrite}

theorem writeEnded_stale (ok : Bool) (writing : s.ape.inWrite = some w) (stale : w.stale = true) :
    writeEnded ok s = engineSettle (returnBlock w.block s.emptied) := by
  rw [writeEnded, writing]
  dsimp only
  rw [if_pos stale]
  rfl

theorem writeEnded_written (writing : s.ape.inWrite = some w) (fresh : w.stale = false) :
    writeEnded true s = engineSettle (s.landed w) := by
  rw [writeEnded, writing]
  dsimp only
  rw [if_neg (by simp [fresh]), if_pos rfl]
  rfl

theorem writeEnded_error (writing : s.ape.inWrite = some w) (fresh : w.stale = false) :
    writeEnded false s = afterFailure (w.block.attempts + 1)
      (returnBlock { w.block with attempts := w.block.attempts + 1 } s.emptied) := by
  rw [writeEnded, writing]
  dsimp only
  rw [if_neg (by simp [fresh]), if_neg Bool.false_ne_true]
  rfl

theorem insertBlock_between {b : Block} {before after : List Block} (lower : ∀ y ∈ before, y.bsn < b.bsn)
    (upper : ∀ y ∈ after, b.bsn ≤ y.bsn) : insertBlock b (before ++ after) = before ++ b :: after := by
  induction before with
  | nil =>
    cases after with
    | nil => rfl
    | cons y after => exact if_pos (upper y List.mem_cons_self)
  | cons y before ih =>
    have above : ¬b.bsn ≤ y.bsn := Nat.not_le.mpr (lower y List.mem_cons_self)
    rw [List.cons_append, insertBlock, if_neg above, ih fun z mem => lower z (List.mem_cons_of_mem y mem)]
    rfl

/-- A block more in the queue leaves one slot less (R105). -/
theorem queued_remainingNow {b : Block} {before after : List Block} {m r : Int} (sealed_ : s.pool.sealed = before ++ after)
    (now : s.remainingNow = some m) : (s.queued (before ++ b :: after) r).remainingNow = some (m - 1) := by
  unfold State.remainingNow at now ⊢
  unfold State.queued
  dsimp only at now ⊢
  split at now
  next c p capacity point =>
    have value := Option.some.inj now
    rw [sealed_] at value
    refine congrArg some ?_
    simp at value ⊢
    omega
  next => cases now

/-- A block goes back to its place, and R falls by 1 (R48, R105). -/
theorem returnBlock_between {b : Block} {before after : List Block} {m : Int} (sealed_ : s.pool.sealed = before ++ after)
    (lower : ∀ y ∈ before, y.bsn < b.bsn) (upper : ∀ y ∈ after, b.bsn ≤ y.bsn) (counting : s.vom.counting = true)
    (now : s.remainingNow = some m) (stays : LevelStays s (m - 1)) :
    returnBlock b s = s.queued (before ++ b :: after) (m - 1) := by
  have less := queued_remainingNow (b := b) (r := m - 1) sealed_ now
  rw [returnBlock, sealed_, insertBlock_between lower upper]
  exact recomputeR_stays (s := { s with pool := { s.pool with sealed := before ++ b :: after } }) counting less stays

end WriteEnds

/-! ## The yield at the end of a write (R91) -/

theorem handOver_chooses {s : State} {c : Client} (free : s.mpt.holder = none) (idle : s.mpt.link = none)
    (chosen : s.mpt.choose = some c) : handOver s = grant c s := by
  rw [handOver, if_pos ⟨free, idle⟩, chosen]

/-- A state whose engine has given the grant up to the cursor of port q, and waits (R72, R74, R91). -/
def State.yieldedTo (s : State) (q : Port) : State :=
  { s with
    ape := { s.ape with state := .yielded, yield := false }
    mpt := { s.mpt with
      holder := some (.cursor q), engineWaits := true, cursorWaits := s.mpt.cursorWaits.set q false
      writes := 0, burstLimit := some s.params.burstMax, lastServed := q } }

/-- The engine gives the grant up to the waiting cursor next in turn, and asks again (R72 to R74, R91). -/
theorem engineSettle_yields {s : State} {q : Port} (held : s.mpt.holder = some .engine) (link : s.mpt.link = none)
    (running : s.ape.state = .running) (inWrite : s.ape.inWrite = none) (yields : s.ape.yield = true)
    (unverified : s.ape.unverified ≠ []) (volume : s.mpt.volumeWaits = false) (done : s.mpt.burstDone = true)
    (waits : s.mpt.cursorWaits[q] = true) (next : s.mpt.nextCursor = some q) :
    engineSettle s = raise (.granted (.cursor q)) (s.yieldedTo q) := by
  have going : s.burstOver = false := by simp [State.burstOver, unverified]

  rw [engineSettle, if_pos running, if_pos yields, if_pos inWrite, yieldGrant, going, if_neg Bool.false_ne_true]
  dsimp only
  rw [release, if_pos (by exact held)]
  have chosen := choose_cursor (m := { s.mpt.setWaits .engine true with holder := none }) volume done waits next
  refine (handOver_chooses (c := .cursor q) ?_ ?_ ?_).trans ?_
  · rfl
  · exact link
  · exact chosen
  · rfl

theorem Cursor.held_of_le {c : Cursor} {d : Nat} (within : ∀ h, c.hold = some h → h ≤ d) : c.held (some d) = false := by
  unfold Cursor.held
  split
  next => rfl
  next h hold => simp [aboveBound, within h hold]

/-- Settles O37. -/
theorem writeEnds : Obligations.WriteEnds := by
  intro s k n bytes b slot pt c m stale quiet linked held running writing ready point capacity below now
  have counting : s.vom.counting = true := by simp [VolumeRecord.counting, ready]
  have same : s.vom.remaining = s.remainingNow := now.1.trans now.2.symm
  have ends {u v : State} {kind : DriveOp → Bool} {head : Outstanding → Option Nat} {act : Outstanding → State → State}
      {o : Outstanding} (is : s.mpt.link = some o) (number : o.number = k) (isKind : kind o.op = true)
      (acts : act o (endOperation (head o) s) = u) (eq : u = v) (hands : handOver v = v) (still : v.signals = []) :
      finish (completion k kind head act s) = .next (driveInhibit v) :=
    finish_completion is number isKind (acts.trans eq) hands still
  refine ⟨fun fresh none_ calm empty => ?_, fun x rest fresh none_ calm sealed_ room there => ?_,
    fun fresh none_ calm few lower room stays => ?_,
    fun q j l d sd fresh yields volume engine limit done waits nearest asking pos elsewhere stock frontier fslot within hold => ?_,
    fun before after rest x isStale none_ calm sealed_ lower upper first room stays => ⟨fun there => ?_, ?_⟩⟩
  · have settled : engineSettle ((endOperation (some (n + 1)) s).landed ⟨b, slot, stale⟩) =
        (endOperation (some (n + 1)) s).landed ⟨b, slot, stale⟩ := by
      rw [engineSettle_running (by exact running) (by exact calm), writeCheck_empty (by exact empty)]
      exact burstEnd_busy (by simp [State.burstOver, State.landed])
    exact ends linked rfl rfl (writeEnded_written writing fresh) settled (handOver_held (by exact held)) quiet
  · have can : CanWrite ((endOperation (some (n + 1)) s).landed ⟨b, slot, stale⟩) pt c :=
      ⟨rfl, rfl, by simp [State.landed, endOperation]; omega, calm, point, capacity, below⟩
    have settled := engineSettle_writes can running sealed_ same none_.2.2 (by rw [there]; rfl)
    exact (ends linked rfl rfl (writeEnded_written (s := endOperation (some (n + 1)) s) writing fresh) settled
      (handOver_held (by exact held)) quiet).trans
      (by simp [State.withWrite, State.landed, MediumPort.send, Config.opLimit, endOperation, running, Block.returned])
  · have returned := returnBlock_between (s := (endOperation none s).emptied) (before := [])
      (b := { b with attempts := b.attempts + 1 }) rfl (by simp) lower counting now.2 stays
    have can : CanWrite ((endOperation none s).emptied.queued ({ b with attempts := b.attempts + 1 } :: s.pool.sealed)
      (m - 1)) pt c := ⟨rfl, rfl, room, calm, point, capacity, below⟩
    have settled := engineSettle_seeks can running rfl (by simp [State.queued, State.emptied, endOperation])
    exact ends linked rfl rfl ((writeEnded_error (s := endOperation none s) writing fresh).trans
      ((congrArg _ returned).trans (afterFailure_below few))) settled (handOver_held (by exact held)) quiet
  · have passes := engineSettle_yields (s := (endOperation (some (n + 1)) s).landed ⟨b, slot, stale⟩) held rfl running rfl
      yields (by simp [State.landed]) volume (by simpa [MediumPort.burstDone, State.landed, endOperation,
        limit] using done) waits (nextCursor_eq waits nearest)
    have begun := handle_granted_cursor.trans <|
      cursorGranted_seek (p := q) (n := j) (s := ((endOperation (some (n + 1)) s).landed ⟨b, slot, stale⟩).yieldedTo q) rfl
      asking rfl stock (pastFrontier_of_le frontier fslot pos within)
      ((congrArg _ frontier).trans (Cursor.held_of_le hold)) pos (fun same => elsewhere (Option.some.inj same).symm)
    have acts : exec (.written k) s = finish (raise (.granted (.cursor q)) (((endOperation (some (n + 1)) s).landed
        ⟨b, slot, stale⟩).yieldedTo q)) := by
      change finish (completion _ _ _ _ s) = _
      rw [completion_accepted linked rfl rfl]
      exact congrArg finish ((congrArg handOver ((writeEnded_written (s := endOperation (some (n + 1)) s) writing fresh).trans
        passes)).trans (handOver_held rfl))
    rw [acts, finish_raise (by exact quiet) begun quiet]
    simp [State.yieldedTo, State.landed, endOperation, MediumPort.send, Config.opLimit, State.cursor]
  · have returned := returnBlock_between (s := (endOperation (some (n + 1)) s).emptied) (b := b) sealed_ lower upper counting
      now.2 stays
    have can : CanWrite ((endOperation (some (n + 1)) s).emptied.queued (before ++ b :: after) (m - 1)) pt c :=
      ⟨rfl, rfl, room, calm, point, capacity, below⟩
    have settled := engineSettle_writes can running first (queued_remainingNow sealed_ now.2).symm none_.2.2 (by rw [there]; rfl)
    exact (ends linked rfl rfl ((writeEnded_stale (s := endOperation (some (n + 1)) s) true writing isStale).trans
      (congrArg _ returned)) settled
      (handOver_held (by exact held)) quiet).trans
      (by simp [State.withWrite, State.queued, State.emptied, MediumPort.send, Config.opLimit, endOperation, running,
        Block.returned])
  · have returned := returnBlock_between (s := (endOperation none s).emptied) (b := b) sealed_ lower upper counting
      now.2 stays
    have can : CanWrite ((endOperation none s).emptied.queued (before ++ b :: after) (m - 1)) pt c :=
      ⟨rfl, rfl, room, calm, point, capacity, below⟩
    have settled := engineSettle_seeks can running first (by simp [State.queued, State.emptied, endOperation])
    rw [first] at settled returned
    exact ends linked rfl rfl ((writeEnded_stale (s := endOperation none s) false writing isStale).trans
      (congrArg _ returned)) settled
      (handOver_held (by exact held)) quiet

/-! The end of a SEEK (R63), for each client, and the fill to which the pool refuses a buffer (R126). -/

/-! ## The end of a fill (R125, R126) -/

section Stopping

variable {s : State} {p : Port}

theorem setCursor_raise (g : Signal) (c : Cursor) : (raise g s).setCursor p c = raise g (s.setCursor p c) := rfl

/-- The hand-over looks at no cursor. -/
theorem handOver_setCursor (c : Cursor) : handOver (s.setCursor p c) = (handOver s).setCursor p c := by
  rw [handOver, handOver]
  change (if s.mpt.holder = none ∧ s.mpt.link = none then _ else _) = _
  by_cases free : s.mpt.holder = none ∧ s.mpt.link = none
  · rw [if_pos free, if_pos free]
    change (match s.mpt.choose with | some _ => _ | none => _) = _
    cases s.mpt.choose <;> rfl
  · rw [if_neg free, if_neg free]

theorem Cursor.derive_phase (c : Cursor) (x : Phase) (v : VolumeRecord) :
    Cursor.derive { c with phase := x } v = { c.derive v with phase := x } := by
  unfold Cursor.derive
  dsimp only
  split
  next => rfl
  next =>
    split
    next => rfl
    next =>
      change (if c.pastFrontier v || c.held v.frontier then _ else _) = _
      split
      next => rfl
      next => rfl

/-- A state in which the cursor of port p has given the grant up, and its phase is `x`. -/
def State.stopped (s : State) (p : Port) (x : Phase) : State :=
  { s.setCursor p { s.cursor p with phase := x } with mpt := { s.mpt with holder := none } }

theorem State.setCursor_stopped (x y : Phase) :
    (s.stopped p x).setCursor p { s.cursor p with phase := y } = s.stopped p y := by
  simp [State.stopped, State.setCursor]

theorem State.cursor_stopped (x : Phase) : (s.stopped p x).cursor p = { s.cursor p with phase := x } := by
  simp [State.stopped, State.cursor, State.setCursor]

theorem cursor_handOver_stopped (x : Phase) : (handOver (s.stopped p x)).cursor p = { s.cursor p with phase := x } := by
  rw [← State.cursor_stopped x]
  simp only [State.cursor, handOver_keeps]

/-- A cursor whose take is refused goes STARVED, or IDLE where it would not ask (R124, R126). -/
theorem stopFill_starved (held : s.mpt.holder = some (.cursor p)) (derived : (s.cursor p).derive s.vom = s.cursor p)
    (isOpen : (s.cursor p).state = .filling ∨ (s.cursor p).state = .ready) (fillable : s.vom.fillable = true)
    (before : (s.cursor p).pastFrontier s.vom = false) (free : (s.cursor p).held s.vom.frontier = false) :
    stopFill p .starved s = handOver (s.stopped p (if (s.cursor p).buffered.length < 2 ∧
      (s.cursor p).buffered.length < s.params.readahead then .starved else .idle)) := by
  have cursor := cursor_handOver_stopped (s := s) (p := p) .starved
  have released : release (.cursor p) (s.setCursor p { s.cursor p with phase := .starved }) =
      handOver (s.stopped p .starved) := if_pos held
  have still : deriveCursor p (handOver (s.stopped p .starved)) = handOver (s.stopped p .starved) := by
    refine deriveCursor_same ?_
    rw [cursor]
    simp only [handOver_keeps]
    exact (Cursor.derive_phase (s.cursor p) .starved s.vom).trans (by rw [derived])
  have waits : endPending p (handOver (s.stopped p .starved)) = handOver (s.stopped p .starved) := by
    rw [endPending, cursor]
    split
    next => exact if_neg (by rintro (at_ : (s.cursor p).state = .atFrontier); simp [at_] at isOpen)
    next => rfl
  have wanted : (handOver (s.stopped p .starved)).fillWanted { s.cursor p with phase := .starved } =
      decide ((s.cursor p).buffered.length < 2 ∧ (s.cursor p).buffered.length < s.params.readahead) := by
    have notClosed : ((s.cursor p).state != .closed && (s.cursor p).state != .failed) = true := by
      obtain state | state := isOpen <;> simp [state]
    have early : ({ s.cursor p with phase := .starved } : Cursor).pastFrontier s.vom = false := before
    have unheld : ({ s.cursor p with phase := .starved } : Cursor).held s.vom.frontier = false := free
    simp [State.fillWanted, handOver_keeps, notClosed, fillable, early, unheld, Config.lowMark, State.stopped, State.setCursor]
  rw [stopFill, released]
  rw [still, waits, cursor, wanted]
  by_cases few : (s.cursor p).buffered.length < 2 ∧ (s.cursor p).buffered.length < s.params.readahead
  · rw [if_pos ⟨rfl, by simpa using few⟩, if_pos few]
  · rw [if_neg fun ⟨_, asks⟩ => few (by simpa using asks), if_neg few, fillCheck, cursor, wanted,
      if_neg (by simpa using few), if_pos rfl, ← handOver_setCursor]
    exact congrArg handOver (State.setCursor_stopped .starved .idle)

end Stopping

/-! ## The answers to a SEEK (R63) -/

theorem tailSeekDone_reads {s : State} {w : Nat} (state : s.vom.state = .seekingEnd) (idle : s.mpt.link = none)
    (slot : s.scratch.slot = some w) : tailSeekDone s = { s with mpt := s.mpt.send (.read w) .volume false } := by
  rw [tailSeekDone, if_pos state, slot, issue_idle idle]
  rfl

theorem takeGranted_endOperation {s : State} {o : Outstanding} (linked : s.mpt.link = some o) (other : o.op.isRead = false)
    (head : Option Nat) : (endOperation head s).takeGranted = s.takeGranted := by
  have count : (endOperation head s).replayCount = s.replayCount := by
    simp [State.replayCount, endOperation, linked, holdsBuffer_of_not_read other]
  rw [State.takeGranted, count]
  rfl

theorem takeGranted_iff {s : State} :
    s.takeGranted = true ↔ s.params.stagingFloor + 1 ≤ s.pool.free ∧ s.replayCount < s.params.replayLimit := by
  simp [State.takeGranted]

theorem fillOver_false {s : State} {c : Cursor} {i : Nat} (inUse : c.inUse = some i) (room : c.buffered.length < i)
    (few : c.reads < 8) (before : c.pastFrontier s.vom = false) (free : c.held s.vom.frontier = false) :
    s.fillOver c = false := by
  have notFull : ¬i ≤ c.buffered.length := Nat.not_le.mpr room
  have notDone : ¬8 ≤ c.reads := Nat.not_le.mpr few
  simp [State.fillOver, inUse, notFull, Config.readBurst, notDone, before, free]

theorem choose_volume {m : MediumPort} (waits : m.volumeWaits = true) : m.choose = some .volume := by
  rw [MediumPort.choose, if_pos waits]

theorem choose_engine {m : MediumPort} (volume : m.volumeWaits = false) (waits : m.engineWaits = true)
    (cursors : ∀ p : Port, m.cursorWaits[p] = false) : m.choose = some .engine := by
  rw [MediumPort.choose, volume, cursorWaiting_false cursors, waits]
  rfl

theorem handOver_engine {s : State} (free : s.mpt.holder = none) (idle : s.mpt.link = none)
    (volume : s.mpt.volumeWaits = false) (waits : s.mpt.engineWaits = true) (cursors : ∀ p : Port, s.mpt.cursorWaits[p] = false) :
    handOver s = raise (.granted .engine) s.engineHolds :=
  (handOver_chooses free idle (choose_engine volume waits cursors)).trans rfl

/-- A state whose Volume Manager has just been handed the grant. -/
def State.volumeHolds (s : State) : State :=
  { s with mpt := { s.mpt with holder := some .volume, volumeWaits := false, burstLimit := some s.params.burstMax } }

theorem handOver_volume {s : State} (free : s.mpt.holder = none) (idle : s.mpt.link = none)
    (waits : s.mpt.volumeWaits = true) : handOver s = raise (.granted .volume) s.volumeHolds :=
  (handOver_chooses free idle (choose_volume waits)).trans rfl

/-- The Volume Manager, given the grant in EJECTING, ejects (R110). -/
theorem volumeGranted_ejects {s : State} (held : s.mpt.holder = some .volume) (ejecting : s.vom.state = .ejecting)
    (idle : s.mpt.link = none) : volumeGranted s = { s with mpt := s.mpt.send .eject .volume false } := by
  rw [volumeGranted, if_pos held, ejecting]
  exact issue_idle idle _ _

/-- An accepted completion at whose end the grant goes to another client. -/
theorem finish_raised {s u w x : State} {n : Byte} {kind : DriveOp → Bool} {o : Outstanding} {g : Signal}
    (linked : s.mpt.link = some o) (number : o.number = n) (isKind : kind o.op = true) {head : Outstanding → Option Nat}
    {act : Outstanding → State → State} (acts : act o (endOperation (head o) s) = u) (hands : handOver u = raise g w)
    (quiet : w.signals = []) (acted : handle g w = x) (still : x.signals = []) :
    finish (completion n kind head act s) = .next (driveInhibit x) := by
  rw [completion_accepted linked number isKind, acts, hands]
  exact finish_raise quiet acted still

/-- Settles O47. -/
theorem seekDone : Obligations.SeekDone := by
  intro s k n issuer quiet linked
  have ends {u v : State} (acts : seekAnswer { op := .seek n, number := k, issuer := issuer } (endOperation (some n) s) = u)
      (hands : handOver u = v) (still : v.signals = []) : exec (.seekDone k) s = .next (driveInhibit v) :=
    finish_completion linked rfl rfl acts hands still
  have refusal {p : Port} {i d sd : Nat} (is : issuer = .cursor p) (held : s.mpt.holder = some (.cursor p))
      (reading : (s.cursor p).phase = .reading) (pos : (s.cursor p).readPos = some n) (inUse : (s.cursor p).inUse = some i)
      (stock : (s.cursor p).buffered.length < i) (few : (s.cursor p).reads < 8) (frontier : s.vom.frontier = some d)
      (fslot : s.vom.frontierSlot = some sd) (within : n ≤ sd) (hold : ∀ h, (s.cursor p).hold = some h → h ≤ d)
      (readable : s.vom.state = .ready ∨ s.vom.state = .draining)
      (state : (s.cursor p).state = (if (s.cursor p).buffered = [] then .filling else .ready))
      (refused : ¬(s.params.stagingFloor + 1 ≤ s.pool.free ∧ s.replayCount < s.params.replayLimit)) :
      seekAnswer { op := .seek n, number := k, issuer := issuer } (endOperation (some n) s) =
        handOver ((endOperation (some n) s).stopped p (if (s.cursor p).buffered.length < 2 ∧
          (s.cursor p).buffered.length < s.params.readahead then .starved else .idle)) := by
    subst is
    have before := pastFrontier_of_le frontier fslot pos within
    have free : (s.cursor p).held s.vom.frontier = false := (congrArg _ frontier).trans (Cursor.held_of_le hold)
    have fillable : s.vom.fillable = true := by
      obtain state | state := readable <;> simp [VolumeRecord.fillable, VolumeRecord.readable, state]
    have isOpen : (s.cursor p).state = .filling ∨ (s.cursor p).state = .ready := by
      rw [state]
      split
      next => exact .inl rfl
      next => exact .inr rfl
    have derived : (s.cursor p).derive s.vom = s.cursor p := by
      by_cases empty : (s.cursor p).buffered = []
      · rw [if_pos empty] at state
        rw [Cursor.derive_filling (by simp [state]) empty before free, ← state]
      · rw [if_neg empty] at state
        exact Cursor.derive_ready state empty _
    exact (fillStep_refused (s := endOperation (some n) s) (p := p) (reading_iff.mpr ⟨held, reading⟩) rfl
      (fillOver_false inUse stock few before free) pos rfl
      ((takeGranted_endOperation linked rfl _).trans (Bool.eq_false_iff.mpr fun both => refused (takeGranted_iff.mp both)))).trans
      (stopFill_starved (s := endOperation (some n) s) held derived isOpen fillable before free)
  refine ⟨fun w none_ is held state slot => ?_,
    fun b rest c m none_ is held positioning writing room calm sealed_ point capacity below now => ?_,
    fun p i d sd none_ is held reading pos inUse stock few frontier fslot within hold floor limit => ?_,
    fun p i d sd v is held reading pos inUse stock few frontier fslot within hold readable state refused eq =>
      ⟨fun none_ => ?_, fun pt c volume waits cursors yielded some_ point capacity below elsewhere => ?_⟩,
    fun p is => ⟨fun none_ => ?_, fun free waits ejecting => ?_⟩⟩
  · subst is
    exact ends (tailSeekDone_reads (s := endOperation (some n) s) state rfl slot) (handOver_held (by exact held)) quiet
  · subst is
    have can : CanWrite ((endOperation (some n) s).setEngine .running) n c :=
      ⟨rfl, writing, room, calm, point, capacity, below⟩
    have settled := engineSettle_writes can rfl sealed_ (now.1.trans now.2.symm) none_.2.2 rfl
    exact (ends ((if_pos (by exact positioning)).trans settled) (handOver_held (by exact held)) quiet).trans
      (by simp [State.withWrite, State.setEngine, MediumPort.send, Config.opLimit, endOperation, Block.returned])
  · subst is
    have goesOn := fillOver_false inUse stock few (pastFrontier_of_le frontier fslot pos within)
      ((congrArg _ frontier).trans (Cursor.held_of_le hold))
    have reads := fillStep_read (s := endOperation (some n) s) (p := p) (reading_iff.mpr ⟨held, reading⟩) rfl goesOn pos rfl
      ((takeGranted_endOperation linked rfl _).trans (takeGranted_iff.mpr ⟨floor, limit⟩))
    exact ends reads (handOver_held (by exact held)) quiet
  · have stops := refusal is held reading pos inUse stock few frontier fslot within hold readable state refused
    subst is eq
    exact ends (stops.trans (handOver_noneAsks (by exact none_))) (handOver_noneAsks (by exact none_)) quiet
  · have stops := refusal is held reading pos inUse stock few frontier fslot within hold readable state refused
    subst is eq
    have given := handOver_engine (s := (endOperation (some n) s).stopped p (if (s.cursor p).buffered.length < 2 ∧
      (s.cursor p).buffered.length < s.params.readahead then .starved else .idle)) rfl rfl volume waits cursors
    have seeks := engineGranted_seeks (s := ((endOperation (some n) s).stopped p (if (s.cursor p).buffered.length < 2 ∧
      (s.cursor p).buffered.length < s.params.readahead then .starved else .idle)).engineHolds) rfl (.inr yielded) some_
      rfl point capacity below (fun same => elsewhere (Option.some.inj same))
    exact finish_raised (g := .granted .engine) linked rfl rfl (stops.trans given) (handOver_held rfl) (by exact quiet) seeks
      quiet
  · subst is
    exact ends rfl (handOver_noneAsks (by exact none_)) quiet
  · subst is
    have given := handOver_volume (s := endOperation (some n) s) free rfl waits
    have ejects := volumeGranted_ejects (s := (endOperation (some n) s).volumeHolds) rfl ejecting rfl
    exact finish_raised (g := .granted .volume) linked rfl rfl rfl given (by exact quiet) ejects quiet

/-! Replies given one after the other (R167): what they leave of a port, and of the rest of the state. -/

/-! ## Steps that touch the ports and their notices only -/

/-- Only the ports and the notice queues differ. -/
def OnlyPorts (s t : State) : Prop := t = { s with ports := t.ports, ntu := t.ntu }

theorem OnlyPorts.refl (s : State) : OnlyPorts s s := rfl

theorem OnlyPorts.trans {s t u : State} (a : OnlyPorts s t) (b : OnlyPorts t u) : OnlyPorts s u := by
  rw [OnlyPorts] at *
  rw [b, a]

theorem OnlyPorts.keeps {s t : State} (only : OnlyPorts s t) :
    t.pending = s.pending ∧ t.ctl = s.ctl ∧ t.params = s.params ∧ t.adu = s.adu ∧ t.pool = s.pool ∧ t.mpt = s.mpt ∧
    t.ape = s.ape ∧ t.vom = s.vom ∧ t.scratch = s.scratch ∧ t.ejectInhibit = s.ejectInhibit ∧ t.cursors = s.cursors ∧
    t.srt = s.srt ∧ t.signals = s.signals ∧ t.choice = s.choice := by
  rw [only]
  simp

theorem place_onlyPorts (p : Port) (s : State) : OnlyPorts s (place p s) := rfl

theorem replyWith_onlyPorts (p : Port) (t : Tag) (st : Status) (body : ReplyBody) (already gap : Bool) (s : State) :
    OnlyPorts s (replyWith p t st body already gap s) := by
  by_cases idle : (s.slot p t).state = .idle
  · rw [replyWith_idle p t st body already gap s idle]
    exact .refl s
  · rw [replyWith, if_neg idle]
    rfl

theorem reply_onlyPorts (p : Port) (t : Tag) (st : Status) (body : ReplyBody) (s : State) :
    OnlyPorts s (reply p t st body s) := replyWith_onlyPorts p t st body false false s

/-- A reply that joins what waits sends no notice, where none of that can be placed. -/
theorem placeItems_reply_notices {ws : List WaitItem} {h : HostPort} {n : NoticeUnit} {t : Tag}
    (stuck : ws = [] ∨ ¬(h.up = true ∧ h.transmit.length < Config.transmitLimit)) :
    (placeItems (ws ++ [.reply t]) h n).2 = n := by
  obtain rfl | shut := stuck
  · rw [List.nil_append, placeItems]
    split
    next =>
      simp only [placeOne, placeItems]
      split <;> rfl
    next => rfl
  · cases ws with
    | nil => rw [List.nil_append, placeItems, if_neg shut]
    | cons w ws => rw [List.cons_append, placeItems, if_neg shut]

/-- A reply sends no notice where nothing waits for room that is there (R171). -/
theorem replyWith_ntu {p : Port} {t : Tag} {st : Status} {body : ReplyBody} {already gap : Bool} {s : State}
    (placed : PlacedAtOnce s) : (replyWith p t st body already gap s).ntu = s.ntu := by
  by_cases idle : (s.slot p t).state = .idle
  · rw [replyWith_idle p t st body already gap s idle]
  · have stuck : (s.port p).waiting = [] ∨ ¬((s.port p).up = true ∧ (s.port p).transmit.length < Config.transmitLimit) := by
      by_cases clear : (s.port p).waiting = []
      · exact .inl clear
      · exact .inr fun ⟨up, room⟩ => Nat.not_le.mpr room (placed p up clear)
    rw [replyWith, if_neg idle]
    dsimp only [place]
    rw [State.port_setPort_same, State.notices_setPort]
    rw [placeItems_reply_notices (by exact stuck)]
    simp [State.setNotices, State.setPort, State.notices]

theorem reply_placed {p : Port} {t : Tag} {st : Status} {body : ReplyBody} {s : State} (placed : PlacedAtOnce s) :
    PlacedAtOnce (reply p t st body s) := fun q => (reply_kept p t st body s q).settled (placed q)

/-! ## Replies to a port -/

/-- From s to t a port has been given these reply frames, which freed these tags, and its notices stand. -/
structure Answers (p : Port) (tags : List Tag) (frames : List Frame) (s t : State) : Prop where
  up : (t.port p).up = (s.port p).up
  waiting : (t.port p).waiting = (s.port p).waiting
  transmit : (t.port p).transmit = (s.port p).transmit ++ frames
  slots : ∀ x, t.slot p x = if x ∈ tags then TagSlot.idle else s.slot p x
  notices : t.notices p = s.notices p

section Answers

variable {p q : Port} {tags more : List Tag} {frames others : List Frame} {s t u : State} {x : Tag} {st : Status}
  {body : ReplyBody} {k : Nat}

theorem Answers.of_port (port : t.port p = s.port p) (notices : t.notices p = s.notices p) : Answers p [] [] s t where
  up := by rw [port]
  waiting := by rw [port]
  transmit := by rw [port, List.append_nil]
  slots x := by simp [State.slot, port]
  notices := notices

theorem Answers.of_ports (ports : t.ports = s.ports) (ntu : t.ntu = s.ntu) : Answers p [] [] s t :=
  .of_port (by rw [State.port, State.port, ports]) (by rw [State.notices, State.notices, ntu])

theorem Answers.trans (a : Answers p tags frames s t) (b : Answers p more others t u) :
    Answers p (tags ++ more) (frames ++ others) s u where
  up := b.up.trans a.up
  waiting := b.waiting.trans a.waiting
  transmit := by rw [b.transmit, a.transmit, List.append_assoc]
  slots x := by
    rw [b.slots, a.slots]
    by_cases left : x ∈ tags
    · simp [left]
    · simp [left]
  notices := b.notices.trans a.notices

theorem Answers.replied (fit : RepliesFit s p tags k) (a : Answers p tags frames s t) : Replied p tags frames s t := by
  obtain ⟨-, clear, -⟩ := fit
  exact ⟨a.transmit, a.waiting.trans clear, a.slots⟩

/-- Behind some replies the rest still fit. -/
theorem Answers.fits (fit : RepliesFit s p (tags ++ more) k) (a : Answers p tags frames s t)
    (each : frames.length = tags.length) : RepliesFit t p more k := by
  obtain ⟨up, clear, room, distinct, busy⟩ := fit
  obtain ⟨-, rest, apart⟩ := List.nodup_append.mp distinct
  refine ⟨a.up.trans up, a.waiting.trans clear, ?_, rest, fun y mem => ?_⟩
  · rw [a.transmit, List.length_append, each]
    rw [List.length_append] at room
    omega
  · have other : y ∉ tags := fun left => apart y left y mem rfl
    rw [a.slots, if_neg other]
    exact busy y (List.mem_append_right _ mem)

theorem RepliesFit.fewer {m : Nat} (fit : RepliesFit s p (tags ++ more) k) (less : m ≤ more.length + k) :
    RepliesFit s p tags m := by
  obtain ⟨up, clear, room, distinct, busy⟩ := fit
  obtain ⟨first, -, -⟩ := List.nodup_append.mp distinct
  rw [List.length_append] at room
  exact ⟨up, clear, by omega, first, fun y mem => busy y (List.mem_append_left _ mem)⟩

/-- A reply to another port leaves this one. -/
theorem replyWith_other {already gap : Bool} (other : q ≠ p) :
    (replyWith q x st body already gap s).port p = s.port p ∧ (replyWith q x st body already gap s).notices p = s.notices p := by
  by_cases idle : (s.slot q x).state = .idle
  · rw [replyWith_idle q x st body already gap s idle]
    exact ⟨rfl, rfl⟩
  · rw [replyWith, if_neg idle]
    simp [State.port_setPort, other]

theorem reply_other_answers (other : q ≠ p) : Answers p [] [] s (reply q x st body s) :=
  have ⟨port, notices⟩ := replyWith_other other
  .of_port port notices

theorem reply_answers (fit : RepliesFit s p [x] k) : Answers p [x] [s.replyTo p st body s.low x] s (reply p x st body s) := by
  obtain ⟨up, clear, room, -, busy⟩ := fit
  have can : CanReply s p x := ⟨busy x List.mem_cons_self, up, clear, by simp at room; omega⟩
  rw [reply_now can]
  have port : ({ s with ports := s.replied p x st body (s.replyMarks p x) } : State).port p = { s.port p with
      tags := (s.port p).tags.set x TagSlot.idle
      transmit := (s.port p).transmit ++ [s.replyTo p st body s.low x] } := by
    simp [State.port, State.replied, State.replyTo, State.marks, State.replyMarks]
  refine ⟨by rw [port], by rw [port], by rw [port], fun y => ?_, rfl⟩
  rw [State.slot, port]
  by_cases same : y = x
  · subst same
    simp [HostPort.slot]
  · have apart : x.val ≠ y.val := fun eq => same (Fin.ext eq.symm)
    simp [HostPort.slot, State.slot, same, apart]

end Answers

/-! ## Replies in list order -/

/-- The replies of one status to some waiting requests in order, each with a body by the RSN its slot records. -/
def repliesTo (st : Status) (body : Option Nat → ReplyBody) : List (Port × Tag) → State → State
  | [], s => s
  | w :: ws, s => repliesTo st body ws (reply w.1 w.2 st (body (s.slot w.1 w.2).rsn) s)

/-- The tags of one port among some requests. -/
def tagsOf (p : Port) (ws : List (Port × Tag)) : List Tag := (ws.filter fun w => w.1 = p).map fun w => w.2

section RepliesTo

variable {st : Status} {body : Option Nat → ReplyBody} {ws : List (Port × Tag)} {s : State}

theorem doneWaiters_eq (bsn slot : Nat) :
    doneWaiters bsn slot ws s = repliesTo .done (fun rsn => .durable (rsn.getD 0) bsn (some slot)) ws s := by
  induction ws generalizing s with
  | nil => rfl
  | cons w ws ih => exact ih

theorem lostWaiters_eq : lostWaiters ws s = repliesTo .lost .rsn ws s := by
  induction ws generalizing s with
  | nil => rfl
  | cons w ws ih => exact ih

theorem refuseAll_eq (entries : List Entry) :
    refuseAll st entries s = repliesTo st (fun _ => .empty) (entries.map fun e => (e.port, e.tag)) s := by
  induction entries generalizing s with
  | nil => rfl
  | cons e entries ih => exact ih

theorem repliesTo_onlyPorts : OnlyPorts s (repliesTo st body ws s) := by
  induction ws generalizing s with
  | nil => exact .refl s
  | cons w ws ih => exact (reply_onlyPorts _ _ _ _ s).trans ih

theorem repliesTo_placed (placed : PlacedAtOnce s) :
    (repliesTo st body ws s).ntu = s.ntu ∧ PlacedAtOnce (repliesTo st body ws s) := by
  induction ws generalizing s with
  | nil => exact ⟨rfl, placed⟩
  | cons w ws ih =>
    obtain ⟨ntu, rest⟩ := ih (reply_placed placed)
    exact ⟨ntu.trans (replyWith_ntu placed), rest⟩

theorem OnlyPorts.low {t : State} (only : OnlyPorts s t) : t.low = s.low := by rw [only]; rfl

theorem OnlyPorts.replyTo {t : State} {p : Port} {b : ReplyBody} {low : Bool} {x : Tag} (only : OnlyPorts s t)
    (slot : t.slot p x = s.slot p x) : t.replyTo p st b low x = s.replyTo p st b low x := by
  have adu : t.adu = s.adu := by rw [only]
  rw [State.replyTo, State.replyTo, slot, adu]

/-- The replies of a port stand in list order, each as it would have been given at the start. -/
theorem repliesTo_answers {p : Port} {k : Nat} (fit : RepliesFit s p (tagsOf p ws) k) :
    Answers p (tagsOf p ws) ((tagsOf p ws).map fun x => s.replyTo p st (body (s.slot p x).rsn) s.low x) s
      (repliesTo st body ws s) := by
  induction ws generalizing s with
  | nil => exact .of_ports rfl rfl
  | cons w ws ih =>
    obtain ⟨q, x⟩ := w
    have only := reply_onlyPorts q x st (body (s.slot q x).rsn) s
    by_cases mine : q = p
    · subst mine
      have tags : tagsOf q ((q, x) :: ws) = [x] ++ tagsOf q ws := by simp [tagsOf]
      rw [tags] at fit ⊢
      have first := reply_answers (st := st) (body := body (s.slot q x).rsn) (RepliesFit.fewer fit (m := 0) (Nat.zero_le _))
      have rest := ih (first.fits fit rfl)
      have same : (tagsOf q ws).map (fun y => (reply q x st (body (s.slot q x).rsn) s).replyTo q st
          (body ((reply q x st (body (s.slot q x).rsn) s).slot q y).rsn) (reply q x st (body (s.slot q x).rsn) s).low y) =
          (tagsOf q ws).map fun y => s.replyTo q st (body (s.slot q y).rsn) s.low y := by
        refine List.map_congr_left fun y mem => ?_
        obtain ⟨-, -, -, distinct, -⟩ := fit
        have apart : y ∉ [x] := fun left => (List.nodup_append.mp distinct).2.2 y left y mem rfl
        have slot : (reply q x st (body (s.slot q x).rsn) s).slot q y = s.slot q y := by rw [first.slots, if_neg apart]
        rw [slot, only.low, only.replyTo slot]
      rw [same] at rest
      exact first.trans rest
    · have tags : tagsOf p ((q, x) :: ws) = tagsOf p ws := by simp [tagsOf, mine]
      rw [tags] at fit ⊢
      have first : Answers p [] [] s (reply q x st (body (s.slot q x).rsn) s) := reply_other_answers mine
      have rest := ih (first.fits (tags := []) fit rfl)
      have same : (tagsOf p ws).map (fun y => (reply q x st (body (s.slot q x).rsn) s).replyTo p st
          (body ((reply q x st (body (s.slot q x).rsn) s).slot p y).rsn) (reply q x st (body (s.slot q x).rsn) s).low y) =
          (tagsOf p ws).map fun y => s.replyTo p st (body (s.slot p y).rsn) s.low y := by
        refine List.map_congr_left fun y _ => ?_
        have slot : (reply q x st (body (s.slot q x).rsn) s).slot p y = s.slot p y := first.slots y
        rw [slot, only.low, only.replyTo slot]
      rw [same] at rest
      exact first.trans rest

end RepliesTo

/-! Verify passes (R84, R88 to R92): the run that becomes durable, the answers to its waiters, and the end of a burst. -/

/-! ## The run that becomes durable (R88, R89) -/

/-- A state in which the entry `u` and those of `run` have become durable, but for the replies. -/
def State.advanced (s : State) (u : Unverified) (run later : List Unverified) : State :=
  { s with
    ape := { s.ape with unverified := later }
    pool := { s.pool with free := s.pool.free + (1 + run.length) }
    vom := { s.vom with
      frontier := some (run.getLastD u).block.bsn, frontierSlot := some (run.getLastD u).slot
      highestRsn := some ((run.getLastD u).block.firstRsn + (run.getLastD u).block.count - 1) } }

/-- The replies to a port's waiters on the blocks of some entries. -/
abbrev State.durableFrames (s : State) (p : Port) (vs : List Unverified) : List Frame :=
  vs.flatMap fun v => (waiterTags p [v.block]).map fun x =>
    s.replyTo p .done (.durable ((s.slot p x).rsn.getD 0) v.block.bsn (some v.slot)) s.low x

section Advancing

variable {s t : State} {u v : Unverified} {run later : List Unverified} {p : Port}

theorem OnlyPorts.advanced (only : OnlyPorts s t) (u : Unverified) (run later : List Unverified) :
    OnlyPorts (s.advanced u run later) (t.advanced u run later) := by
  rw [OnlyPorts] at *
  rw [only]
  rfl

theorem State.advanced_advanced : (s.advanced u [] (v :: (run ++ later))).advanced v run later = s.advanced u (v :: run) later := by
  have frees : s.pool.free + (1 + 0) + (1 + run.length) = s.pool.free + (1 + (run.length + 1)) := by omega
  simp only [State.advanced, List.getLastD_cons, List.length_cons, List.length_nil, frees]

theorem makeDurable_onlyPorts (rest : List Unverified) : OnlyPorts (s.advanced u [] rest) (makeDurable u rest s) := by
  have replies := repliesTo_onlyPorts (st := .done) (body := fun rsn => .durable (rsn.getD 0) u.block.bsn (some u.slot))
    (ws := u.block.waiters) (s := { s with
      ape := { s.ape with unverified := rest }
      vom := { s.vom with frontier := some u.block.bsn, frontierSlot := some u.slot
                          highestRsn := some (lastRsnOf u.block.firstRsn u.block.count) } })
  rw [OnlyPorts] at *
  rw [makeDurable]
  dsimp only
  rw [doneWaiters_eq, replies]
  rfl

theorem advance_run (passed : v.passed = true) :
    advance (u :: v :: (run ++ later)) s = advance (v :: (run ++ later)) (makeDurable u (v :: (run ++ later)) s) := by
  rw [advance]
  exact if_pos passed

theorem advance_last (stops : ∀ v, later.head? = some v → v.passed = false) :
    advance (u :: later) s = makeDurable u later s := by
  cases later with
  | nil => rfl
  | cons v later =>
    rw [advance]
    exact if_neg (by simp [stops v rfl])

/-- The run of passed entries becomes durable with the first. -/
theorem advance_onlyPorts (passed : ∀ v ∈ run, v.passed = true) (stops : ∀ v, later.head? = some v → v.passed = false) :
    OnlyPorts (s.advanced u run later) (advance (u :: (run ++ later)) s) := by
  induction run generalizing u s with
  | nil =>
    rw [List.nil_append, advance_last stops]
    exact makeDurable_onlyPorts later
  | cons v run ih =>
    rw [List.cons_append, advance_run (passed v List.mem_cons_self), ← State.advanced_advanced]
    exact ((makeDurable_onlyPorts (v :: (run ++ later))).advanced v run later).trans
      (ih fun w mem => passed w (List.mem_cons_of_mem v mem))

theorem makeDurable_placed (rest : List Unverified) (placed : PlacedAtOnce s) :
    (makeDurable u rest s).ntu = s.ntu ∧ PlacedAtOnce (makeDurable u rest s) := by
  rw [makeDurable]
  dsimp only
  rw [doneWaiters_eq]
  exact repliesTo_placed (s := { s with ape := _, vom := _ }) placed

theorem advance_ntu (passed : ∀ v ∈ run, v.passed = true) (stops : ∀ v, later.head? = some v → v.passed = false)
    (placed : PlacedAtOnce s) : (advance (u :: (run ++ later)) s).ntu = s.ntu := by
  induction run generalizing u s with
  | nil =>
    rw [List.nil_append, advance_last stops]
    exact (makeDurable_placed later placed).1
  | cons v run ih =>
    obtain ⟨ntu, rest⟩ := makeDurable_placed (u := u) (v :: (run ++ later)) placed
    rw [List.cons_append, advance_run (passed v List.mem_cons_self)]
    exact (ih (fun w mem => passed w (List.mem_cons_of_mem v mem)) rest).trans ntu

/-- A run without waiters becomes durable without a reply. -/
theorem advance_silent (passed : ∀ v ∈ run, v.passed = true) (stops : ∀ v, later.head? = some v → v.passed = false)
    (silent : ∀ v ∈ u :: run, v.block.waiters = []) : advance (u :: (run ++ later)) s = s.advanced u run later := by
  have one (w : Unverified) (rest : List Unverified) (t : State) (none_ : w.block.waiters = []) :
      makeDurable w rest t = t.advanced w [] rest := by
    rw [makeDurable]
    dsimp only
    rw [none_]
    rfl
  induction run generalizing u s with
  | nil =>
    rw [List.nil_append, advance_last stops]
    exact one u later s (silent u List.mem_cons_self)
  | cons v run ih =>
    rw [List.cons_append, advance_run (passed v List.mem_cons_self), one u _ s (silent u List.mem_cons_self),
      ih (fun w mem => passed w (List.mem_cons_of_mem v mem)) fun w mem => silent w (List.mem_cons_of_mem u mem)]
    exact State.advanced_advanced

theorem waiterTags_cons (b : Block) (bs : List Block) : waiterTags p (b :: bs) = tagsOf p b.waiters ++ waiterTags p bs := by
  simp [waiterTags, tagsOf]

theorem waiterTags_singleton (b : Block) : waiterTags p [b] = tagsOf p b.waiters := by
  simp [waiterTags, tagsOf]

theorem mem_waiterTags {x : Tag} {vs : List Unverified} (mem : v ∈ vs) (waits : x ∈ waiterTags p [v.block]) :
    x ∈ waiterTags p (vs.map fun v => v.block) := by
  simp only [waiterTags, List.flatMap_cons, List.flatMap_nil, List.append_nil, List.mem_map, List.mem_flatMap] at *
  obtain ⟨w, listed, rfl⟩ := waits
  exact ⟨w, ⟨v.block, ⟨v, mem, rfl⟩, listed⟩, rfl⟩

/-- The replies of a run are as they would have been given at an earlier state with the same slots. -/
theorem durableFrames_congr {vs : List Unverified} (low : t.low = s.low) (adu : t.adu = s.adu)
    (slots : ∀ x ∈ waiterTags p (vs.map fun v => v.block), t.slot p x = s.slot p x) :
    t.durableFrames p vs = s.durableFrames p vs := by
  refine List.flatMap_congr fun v mem => List.map_congr_left fun x waits => ?_
  rw [State.replyTo, State.replyTo, slots x (mem_waiterTags mem waits), low, adu]

theorem makeDurable_answers {rest : List Unverified} {k : Nat} (fit : RepliesFit s p (waiterTags p [u.block]) k) :
    Answers p (waiterTags p [u.block]) (s.durableFrames p [u]) s (makeDurable u rest s) := by
  rw [makeDurable]
  dsimp only
  rw [doneWaiters_eq, State.durableFrames, List.flatMap_cons, List.flatMap_nil, List.append_nil]
  rw [waiterTags_singleton] at *
  have replies := repliesTo_answers (st := .done) (body := fun rsn => .durable (rsn.getD 0) u.block.bsn (some u.slot))
    (s := { s with
      ape := { s.ape with unverified := rest }
      vom := { s.vom with frontier := some u.block.bsn, frontierSlot := some u.slot
                          highestRsn := some (lastRsnOf u.block.firstRsn u.block.count) } }) fit
  exact ⟨replies.up, replies.waiting, replies.transmit, replies.slots, replies.notices⟩

/-- The waiters of the run are answered block by block, in list order (R89). -/
theorem advance_answers {k : Nat} (passed : ∀ v ∈ run, v.passed = true)
    (stops : ∀ v, later.head? = some v → v.passed = false)
    (fit : RepliesFit s p (waiterTags p ((u :: run).map fun v => v.block)) k) :
    Answers p (waiterTags p ((u :: run).map fun v => v.block)) (s.durableFrames p (u :: run)) s
      (advance (u :: (run ++ later)) s) := by
  induction run generalizing u s with
  | nil =>
    rw [List.nil_append, advance_last stops]
    exact makeDurable_answers fit
  | cons v run ih =>
    rw [List.cons_append, advance_run (passed v List.mem_cons_self)]
    have split_ : waiterTags p ((u :: v :: run).map fun v => v.block) =
        waiterTags p [u.block] ++ waiterTags p ((v :: run).map fun v => v.block) := by
      rw [List.map_cons, waiterTags_cons, waiterTags_singleton]
    rw [split_] at fit ⊢
    have first := makeDurable_answers (rest := v :: (run ++ later)) (RepliesFit.fewer fit (m := 0) (Nat.zero_le _))
    have each : (s.durableFrames p [u]).length = (waiterTags p [u.block]).length := by simp
    have rest := ih (fun w mem => passed w (List.mem_cons_of_mem v mem)) (first.fits fit each)
    have only := makeDurable_onlyPorts (s := s) (u := u) (v :: (run ++ later))
    have adu : (makeDurable u (v :: (run ++ later)) s).adu = s.adu := by
      rw [only]
      rfl
    rw [durableFrames_congr (s := s) only.low adu fun x mem => ?_] at rest
    · have frames : s.durableFrames p (u :: v :: run) = s.durableFrames p [u] ++ s.durableFrames p (v :: run) := by simp
      rw [frames]
      exact first.trans rest
    · obtain ⟨-, -, -, distinct, -⟩ := fit
      have apart : x ∉ waiterTags p [u.block] := fun left => (List.nodup_append.mp distinct).2.2 x left x mem rfl
      rw [first.slots, if_neg apart]

end Advancing

/-! ## The reports after an advance -/

/-- The frontier report finds no cursor to move where all are CLOSED (R121). -/
theorem frontierMoved_closed {s : State} (closed : ∀ p, (s.cursor p).state = .closed) : frontierMoved s = s := by
  refine List.foldl_fixed' (fun p => ?_) _
  have same : deriveCursor p s = s := deriveCursor_same (if_pos (.inl (closed p)))
  dsimp only
  rw [same, if_neg (by simp [closed p])]

/-- Behind an advance the engine's check is left, where nobody else waits (R55, R88). -/
theorem settles_advanced {t : State} (quiet : t.signals = []) (closed : ∀ p, (t.cursor p).state = .closed)
    (none_ : NoneWaits t) : Settles 4 (raise .engineCheck (raise .wake (raise .frontier t)))
      (raise .engineCheck { t with choice := t.choice + 2 }) := by
  have moved := Settles.report (g := .frontier) (rest := [.wake, .engineCheck])
    (s := raise .engineCheck (raise .wake (raise .frontier t))) (by simp [raise, quiet])
    (frontierMoved_closed (s := { t with signals := [] }) closed)
  rw [show raise .engineCheck { t with choice := t.choice + 2 } =
    { t with signals := [.engineCheck], choice := t.choice + 2 } by rw [raise, quiet]; rfl]
  exact moved.trans (settles_wake (s := { t with signals := [.wake, .engineCheck] }) rfl none_)

/-! The end of a burst at a verify pass, the drain that ends with it, and the report itself (R84, R90, R92, R110). -/

/-! ## The end of a burst (R90, R92, R110) -/

section BurstEnd

variable {s : State}

/-- Nothing is staged but perhaps an open block. -/
abbrev BurstDone (s : State) : Prop := s.pool.sealed = [] ∧ s.ape.inWrite = none ∧ s.ape.unverified = []

theorem burstOver_iff : s.burstOver = true ↔ BurstDone s := by
  simp [State.burstOver, and_assoc, and_comm (a := s.ape.unverified = [])]

theorem engineSettle_over (running : s.ape.state = .running) (done : BurstDone s) :
    engineSettle s = raise .drainCheck (letGo .engine (s.setEngine .idle)) := by
  have over_ := burstOver_iff.mpr done
  obtain ⟨empty, inWrite, -⟩ := done
  rw [engineSettle, if_pos running]
  by_cases yields : s.ape.yield = true
  · rw [if_pos yields, if_pos inWrite, yieldGrant, if_pos over_]
  · rw [if_neg yields, writeCheck_empty empty, burstEnd, if_pos ⟨.inl running, over_⟩]

theorem burstEnd_over (yielded : s.ape.state = .yielded) (done : BurstDone s) :
    burstEnd s = raise .drainCheck (letGo .engine (s.setEngine .idle)) :=
  if_pos ⟨.inr yielded, burstOver_iff.mpr done⟩

theorem engine_reset (done : BurstDone s) : { s.ape with state := .idle, yield := false } = Engine.reset := by
  obtain ⟨-, inWrite, unverified⟩ := done
  simp [inWrite, unverified, Engine.reset]

theorem letGo_engine_held (held : s.mpt.holder = some .engine) (none_ : NoneAsks s) :
    letGo .engine s = { s with mpt := { s.mpt with holder := none }, ape := { s.ape with yield := false } } := by
  rw [letGo, release_noneAsks held none_, withdrawRequest, MediumPort.setWaits_waits _ (by exact none_.2.1)]
  exact yieldRecheck_calm rfl

/-- The drain-end check once the burst is over (R110). -/
theorem drainCheck_done (idle : s.ape.state = .idle) (done : BurstDone s) :
    drainCheck s = if s.vom.state = .draining ∧ s.pool.opened = none then beginEject s else s := by
  obtain ⟨sealed_, inWrite, unverified⟩ := done
  have staged : s.staged = 0 ↔ s.pool.opened = none := by
    rw [State.staged, sealed_, inWrite, unverified]
    cases s.pool.opened <;> simp
  simp [drainCheck, idle, staged]

/-- The Volume Manager asks for the grant where nobody holds it, and ejects (R72, R110). -/
theorem settles_beginEject (free : s.mpt.holder = none) (idle : s.mpt.link = none) (waits : s.mpt.volumeWaits = false)
    (quiet : s.signals = []) : Settles 1 (beginEject s) { s with
      vom := { s.vom with state := .ejecting }
      mpt := { s.mpt with
        link := some { op := .eject, number := s.mpt.nextOp, issuer := .volume }, timer := some 3000, retry := false
        nextOp := s.mpt.nextOp + 1, holder := some .volume, burstLimit := some s.params.burstMax } } := by
  have asked : beginEject s =
      raise (.granted .volume) ({ s with vom := { s.vom with state := .ejecting } } : State).volumeHolds := by
    rw [beginEject, request_free (by exact free) (by exact idle) (by exact waits)]
    rfl
  rw [asked]
  have ejects := volumeGranted_ejects (s := ({ s with vom := { s.vom with state := .ejecting } } : State).volumeHolds) rfl rfl
    idle
  have run := Settles.raised (g := .granted .volume) (by exact quiet) ejects
  simpa [State.volumeHolds, MediumPort.send, Config.opLimit, waits] using run

/-- The Volume Manager waits for the grant while the link is OUTSTANDING (R72, R110). -/
theorem beginEject_waits (free : s.mpt.holder = none) (busy : s.mpt.link ≠ none) :
    beginEject s = { s with vom := { s.vom with state := .ejecting }, mpt := { s.mpt with volumeWaits := true } } := by
  rw [beginEject, request]
  by_cases waits : s.mpt.volumeWaits = true
  · rw [if_pos (.inr waits), ← waits]
  · rw [if_neg (by simpa [free, MediumPort.waits] using waits), if_neg fun ⟨_, idle⟩ => busy idle]
    rfl

end BurstEnd

/-! ## The report (R84) -/

section Report

variable {s : State} {u v : Unverified} {run later : List Unverified}

theorem verifyReport_passes {slot : Nat} (entries : s.ape.unverified = u :: later) (named : u.slot = slot)
    (fresh : u.passed = false) : verifyReport slot true s =
      raise .engineCheck (raise .wake (raise .frontier (advance (u :: later) s))) := by
  rw [verifyReport, findSlot_eq (before := []) entries named (by simp)]
  simp [entries, fresh]

/-- A pass of a later entry marks it (R84). -/
theorem verifyReport_marks {slot : Nat} {before : List Unverified} (entries : s.ape.unverified = before ++ u :: later)
    (some_ : before ≠ []) (first : ∀ x ∈ before, x.slot ≠ slot) (named : u.slot = slot) (fresh : u.passed = false) :
    verifyReport slot true s = { s with ape := { s.ape with
      unverified := before ++ { u with passed := true, timer := none } :: later } } := by
  have place : before.length ≠ 0 := by simpa using some_
  have set_ : s.ape.unverified.set before.length { u with passed := true, timer := none } =
      before ++ { u with passed := true, timer := none } :: later := by simp [entries]
  rw [verifyReport, findSlot_eq entries named first]
  dsimp only
  rw [entry_at entries]
  dsimp only
  rw [if_neg (by simp [fresh]), if_neg (by simp), if_neg place, set_]

/-- A report for no entry, or for one that has passed, has no effect (R84). -/
theorem verifyReport_ignored {slot : Nat} {pass : Bool}
    (none_ : ∀ x, s.ape.unverified.find? (fun v => v.slot == slot) = some x → x.passed = true) :
    verifyReport slot pass s = s := by
  rw [verifyReport]
  split
  next => rfl
  next i found =>
    split
    next => rfl
    next u at_ =>
      refine if_pos (none_ u ?_)
      obtain ⟨lt, named, first⟩ := List.findIdx?_eq_some_iff_getElem.mp found
      rw [List.getElem?_eq_getElem lt] at at_
      cases at_
      exact List.find?_eq_some_iff_getElem.mpr ⟨named, i, lt, rfl, fun j before => by simpa using first j before⟩

end Report

/-- The end of a step whose verify pass moves the frontier. -/
theorem finish_advanced {t u w : State} {k : Nat} (quiet : t.signals = []) (closed : ∀ p, (t.cursor p).state = .closed)
    (none_ : NoneWaits t) (acted : engineCheck { t with choice := t.choice + 2 } = u) (run : Settles k u w)
    (still : w.signals = []) (few : k ≤ 4091 := by decide) :
    finish (raise .engineCheck (raise .wake (raise .frontier t))) = .next (driveInhibit w) :=
  finish_of_settles (((settles_advanced quiet closed none_).trans
    (Settles.raised (g := .engineCheck) (by exact quiet) acted)).trans run) still (by omega)

/-- The end of the engine's burst: the drain ends with it, or the grant is merely given up. -/
theorem settles_drainCheck {s : State} {k : Nat} {v : State} (idle : s.ape.state = .idle) (done : BurstDone s)
    (quiet : s.signals = []) (ends : (s.vom.state = .draining ∧ s.pool.opened = none) → Settles k (beginEject s) v) :
    ∃ n ≤ k + 1, Settles n (raise .drainCheck s)
      (if s.vom.state = .draining ∧ s.pool.opened = none then v else s) := by
  have check := Settles.raised (g := .drainCheck) quiet (drainCheck_done idle done)
  by_cases over_ : s.vom.state = .draining ∧ s.pool.opened = none
  · rw [if_pos over_] at check ⊢
    exact ⟨k + 1, le_rfl, check.trans (ends over_)⟩
  · rw [if_neg over_] at check ⊢
    exact ⟨1, Nat.le_add_left 1 k, check⟩

/-- A waiting engine whose burst is over withdraws its request, and a standing yield signal with it (R72, R73). -/
theorem settles_letGo_waiting {s : State} (other : s.mpt.holder ≠ some .engine)
    (cursors : ∀ q : Port, s.mpt.cursorWaits[q] = false) (idle : s.ape.state = .idle) (quiet : s.signals = []) :
    ∃ n ≤ 1, Settles n (raise .drainCheck (letGo .engine s)) (raise .drainCheck { s with
      ape := { s.ape with yield := false }, mpt := { s.mpt with engineWaits := false } }) := by
  have lets : letGo .engine s = yieldRecheck { s with mpt := { s.mpt with engineWaits := false } } := by
    rw [letGo, release_other other]
    rfl
  rw [lets]
  by_cases yields : s.ape.yield = true
  · rw [yieldRecheck, if_pos ⟨yields, cursorWaiting_false cursors⟩]
    refine ⟨1, le_rfl, ?_⟩
    have none_ := Settles.report (g := .yieldWithdrawn) (rest := [.drainCheck])
      (s := raise .drainCheck (raise .yieldWithdrawn { s with
        ape := { s.ape with yield := false }, mpt := { s.mpt with engineWaits := false } })) (by simp [raise, quiet])
      (if_neg (by simp [raise, idle]))
    simpa [raise, quiet] using none_
  · rw [yieldRecheck_calm (by simpa using yields)]
    refine ⟨0, Nat.zero_le 1, ?_⟩
    have calm : s.ape = { s.ape with yield := false } := by rw [← Bool.eq_false_of_not_eq_true yields]
    rw [← calm]
    exact .refl _

/-- Settles O38: a pass of the first entry is the advance and its three reports. -/
theorem verifyPasses : Obligations.VerifyPasses := by
  intro s slot u run later ⟨running, quiet⟩ entries
  have passes (named : u.slot = slot.toNat) (fresh : u.passed = false) : exec (.verifyResult slot true) s =
      finish (raise .engineCheck (raise .wake (raise .frontier (advance (u :: (run ++ later)) s)))) := by
    rw [exec_verifyResult running, verifyReport_passes entries named fresh]
  refine ⟨fun named fresh passed stops silent closed none_ mid => ?_,
    fun named fresh passed stops closed none_ mid placed => ?_,
    fun v named fresh passed last silent closed none_ empty noWrite eq => ⟨fun busy held idle asks => ?_,
      fun yielded free busy cursors => ?_⟩,
    fun v after at_ named fresh first => ?_, fun known pass => ?_⟩
  · rw [passes named fresh, advance_silent passed stops silent]
    exact finish_advanced (t := s.advanced u run later) quiet (fun p => (closed p).1) none_
      (engineCheck_midWrite mid) (.refl _) quiet
  · have only := advance_onlyPorts (s := s) (u := u) passed stops
    have answers {p : Port} {k : Nat} := advance_answers (s := s) (u := u) (p := p) (k := k) passed stops
    have ntu := advance_ntu (u := u) passed stops placed
    generalize after : advance (u :: (run ++ later)) s = t at only answers ntu
    rw [passes named fresh, after]
    obtain ⟨-, -, params, adu, pool, mpt, ape, vom, -, -, cursors, srt, signals, -⟩ := only.keeps
    have cursor (p : Port) : t.cursor p = s.cursor p := by
      rw [State.cursor, cursors]
      rfl
    have still : t.signals = [] := signals.trans quiet
    refine ⟨driveInhibit { t with choice := t.choice + 2 }, finish_advanced (t := t) still
      (fun p => by rw [cursor]; exact (closed p).1) ⟨by rw [adu]; exact none_.1, fun p => by rw [cursor]; exact none_.2 p⟩
      (engineCheck_midWrite (by rw [MidWrite, ape]; exact mid)) (.refl _) still,
      ape, pool, vom, adu, mpt, srt, ntu, cursors, params, fun p tags listed fit => ?_⟩
    subst listed
    have answered := (answers fit).replied fit
    exact answered
  · subst eq last
    obtain ⟨x, is⟩ : ∃ x : State, x = { s.advanced u run [] with choice := s.choice + 2 } := ⟨_, rfl⟩
    obtain ⟨y, isY⟩ : ∃ y : State, y = { x with ape := Engine.reset, mpt := { x.mpt with holder := none } } := ⟨_, rfl⟩
    have running : x.ape.state = .running := by rw [is]; exact busy
    have done : BurstDone x := by rw [is]; exact ⟨empty, noWrite, rfl⟩
    have acted : engineCheck x = raise .drainCheck y := by
      rw [engineCheck, running]
      dsimp only
      rw [engineSettle_over running done,
        letGo_engine_held (s := x.setEngine .idle) (by rw [is]; exact held) (by rw [is]; exact asks), isY,
        ← engine_reset done]
      rfl
    have still : y.signals = [] := by rw [isY, is]; exact quiet
    have ejects := settles_beginEject (s := y) (by rw [isY]) (by rw [isY, is]; exact idle) (by rw [isY, is]; exact asks.1) still
    obtain ⟨n, few, run_⟩ := settles_drainCheck (by rw [isY]; rfl) (by rw [isY]; exact ⟨done.1, rfl, rfl⟩) still fun _ => ejects
    rw [passes named fresh, advance_silent passed (by simp) silent]
    refine finish_advanced (t := s.advanced u run []) quiet (fun p => (closed p).1) none_ (u := raise .drainCheck y)
      (by subst is; exact acted) (k := n) ?_ ?_ (by omega)
    · subst isY is
      exact run_
    · split
      next => exact quiet
      next => exact quiet
  · subst eq last
    obtain ⟨x, is⟩ : ∃ x : State, x = { s.advanced u run [] with choice := s.choice + 2 } := ⟨_, rfl⟩
    obtain ⟨y, isY⟩ : ∃ y : State, y = { x with ape := Engine.reset, mpt := { x.mpt with engineWaits := false } } := ⟨_, rfl⟩
    have state : x.ape.state = .yielded := by rw [is]; exact yielded
    have done : BurstDone x := by rw [is]; exact ⟨empty, noWrite, rfl⟩
    have acted : engineCheck x = raise .drainCheck (letGo .engine (x.setEngine .idle)) := by
      rw [engineCheck, state]
      exact burstEnd_over state done
    have still : y.signals = [] := by rw [isY, is]; exact quiet
    have waits := beginEject_waits (s := y) (by rw [isY, is]; exact free) (by rw [isY, is]; exact busy)
    obtain ⟨n, few, run_⟩ := settles_drainCheck (s := y) (by rw [isY]; rfl) (by rw [isY]; exact ⟨done.1, rfl, rfl⟩) still
      fun _ => by rw [waits]; exact .refl _
    obtain ⟨m, least, lets⟩ := settles_letGo_waiting (s := x.setEngine .idle) (by rw [is]; simp [State.setEngine,
      State.advanced, free])
      (by rw [is]; exact cursors) rfl (by rw [is]; exact quiet)
    have rests : raise .drainCheck { x.setEngine .idle with
        ape := { (x.setEngine .idle).ape with yield := false }
        mpt := { (x.setEngine .idle).mpt with engineWaits := false } } = raise .drainCheck y := by
      rw [isY, ← engine_reset done]
      rfl
    rw [rests] at lets
    rw [passes named fresh, advance_silent passed (by simp) silent]
    refine finish_advanced (t := s.advanced u run []) quiet (fun p => (closed p).1) none_ (u := raise .drainCheck
      (letGo .engine (x.setEngine .idle)))
      (by subst is; exact acted) (k := n + m) ?_ ?_ (by omega)
    · have both := lets.trans run_
      subst isY is
      exact both
    · split
      next => exact quiet
      next => exact quiet
  · rw [exec_verifyResult running, verifyReport_marks (before := u :: run) (u := v) (later := after) (by simp [entries, at_])
      (by simp) first named fresh]
    exact finish_quiet _ quiet
  · rw [exec_verifyResult running, verifyReport_ignored known]
    exact finish_quiet _ quiet

/-! Two statements that say which frame a new notice puts in the transmit queue, refuted by a notice queue of nine entries. The
search for a number tries eight values (R156); with entries of one kind only, which the statements do not ask for, eight are
enough, and here they are not: the new entry shares its number with an old one, whose body the frame carries. -/

/-- A notice queue whose entries hold the counter's value and the eight after it. -/
def NoticeUnit.crowded : NoticeUnit where
  counter := 0
  queue := (List.range 9).map fun n => { number := BitVec.ofNat 16 n, body := .resetOccurred .port, sent := true }

/-- A running part with its links up, a crowded notice queue at port 0, and a volume in the state given. -/
def State.crowded (v : VolumeRecord) : State :=
  { State.reset with
    ctl := { test := .running, testLines := 0, faultLine := false, resetAsserted := false, cartridgeNoted := false }
    ports := Vector.replicate 4 { HostPort.reset with up := true, activity := some 20 }
    ntu := (Vector.replicate 4 NoticeUnit.reset).set 0 NoticeUnit.crowded
    vom := v }

/-- What stands in port 0's transmit queue after a command. -/
def transmitAfter (c : Instr) (s : State) : List Frame :=
  match exec c s with
  | .next t => (t.port 0).transmit
  | _ => []

/-- A volume whose end is being searched for, with a crowded notice queue. -/
def State.crowdedSearch : State := .crowded { VolumeRecord.unset .seekingEnd with serial := some 7, capacity := some 4096 }

theorem crowdedSearch_removed : transmitAfter .cartridgeRemoved State.crowdedSearch = [.notice 8 (.resetOccurred .port)] := by
  decide

/-- Refutes O52: the frame placed for VOLUME_GONE carries the body of the old entry with the same number. -/
theorem not_cartridgeRemoved : ¬ Obligations.CartridgeRemoved := by
  intro h
  obtain ⟨-, -, -, -, removed⟩ := h State.crowdedSearch _ (by decide) (by decide) (fun o linked => nomatch linked) rfl
  obtain ⟨t, run, -, -, -, -, -, -, -, frames, -⟩ := removed (.inl rfl)
  obtain ⟨number, transmit, -⟩ := frames 0 [] [] [] rfl rfl rfl (by decide) (by decide)
  have placed : transmitAfter .cartridgeRemoved State.crowdedSearch = (t.port 0).transmit := by rw [transmitAfter, run]
  rw [crowdedSearch_removed, transmit] at placed
  cases placed

/-- A block of the refuting state. -/
def Block.plain (n : Nat) : Block :=
  { bsn := n, session := 1, cause := .timer, count := 1, fill := 16, firstRsn := n + 5, serial := 7, crc := 0
    records := [], waiters := [], ageTimer := none, aged := false, attempts := 0 }

/-- A full medium with a block to write, and a crowded notice queue. -/
def State.crowdedFull : State :=
  { State.crowded { VolumeRecord.unset .ready with
      serial := some 7, capacity := some 4096, appendPoint := some 4096, remaining := some (-1), level := some .full
      session := some 1, frontier := some 3, frontierSlot := some 3, highestRsn := some 8, lost := some 0 } with
    pool := { free := 46, opened := none, sealed := [Block.plain 5], nextBsn := some 6 }
    ape := { state := .running, unverified := [], inWrite := some { block := Block.plain 4, slot := 4, stale := false }
             yield := false }
    mpt := { MediumPort.reset with
      link := some { op := .write 4 [], number := 9, issuer := .engine }, timer := some 3000, nextOp := 10
      head := some 4, holder := some .engine, writes := 1, burstLimit := some 32 } }

/-- The state at the end of the write, before the wake-up of the buffers that its fault frees. -/
abbrev State.crowdedFault : State :=
  completion 9 DriveOp.isWrite (fun o => some (o.op.slot + 1)) (fun _ => writeEnded true) State.crowdedFull

theorem crowdedFull_written : transmitAfter (.written 9) State.crowdedFull = [.notice 8 (.resetOccurred .port)] := by
  have woken := finish_wake (s := State.crowdedFault) (by decide) (by decide)
  have frames : (State.crowdedFault.port 0).transmit = [.notice 8 (.resetOccurred .port)] := by decide
  rw [transmitAfter, show exec (.written 9) State.crowdedFull = finish State.crowdedFault from rfl, woken]
  exact frames

/-- Refutes O40, by the fault of a full medium. -/
theorem not_tenthFailureFaults : ¬ Obligations.TenthFailureFaults := by
  intro h
  obtain ⟨-, full⟩ := h State.crowdedFull 0 (by decide) rfl rfl rfl (by decide) (by decide) rfl
  obtain ⟨t, run, ⟨-, -, -, -, -, -, -, -, -, frames, -⟩, -⟩ := full 9 4 4096 [] _ rfl rfl rfl rfl rfl (by decide) (by decide)
    rfl rfl
  obtain ⟨number, transmit, -⟩ := frames 0 (by decide) (by decide)
  have placed : transmitAfter (.written 9) State.crowdedFull = (t.port 0).transmit := by rw [transmitAfter, run]
  rw [crowdedFull_written, transmit] at placed
  have last := congrArg List.getLast? placed
  rw [← List.append_assoc, List.getLast?_append] at last
  cases last

/-! A record that needs a new block (R20 to R22, R41, R44): the seal of the full one, the new block, and the hold. -/

/-! ## The seal of the full block (R44) -/

/-- A state after its open block, if any, has been sealed FULL. -/
def State.fullSealed (s : State) : State :=
  { s with pool := { s.pool with
      opened := none
      sealed := s.pool.sealed ++ s.pool.opened.toList.map (fun o =>
        sealedBlock o .full (s.pool.nextBsn.getD 0) (s.vom.session.getD 0) (s.vom.serial.getD 0) s.params.startAge)
      nextBsn := if s.pool.opened = none then s.pool.nextBsn else some (s.pool.nextBsn.getD 0 + 1) } }

/-- The report of the seal, if there is one. -/
def State.arrivals (s : State) : List Signal := s.pool.opened.toList.map fun _ => .arrival

section Sealing

variable {s : State}

theorem fullSealed_none (closed : s.pool.opened = none) : s.fullSealed = s := by
  rw [State.fullSealed, closed, if_pos rfl, Option.toList_none, List.map_nil, List.append_nil, ← closed]

theorem fullSealed_some {o : OpenBlock} (opened : s.pool.opened = some o) : s.fullSealed = s.sealedWith .full o := by
  rw [State.fullSealed, opened, if_neg (Option.some_ne_none o)]
  rfl

theorem sealBlock_full (same : s.vom.remaining = s.remainingNow) :
    sealBlock .full s = { s.fullSealed with signals := s.signals ++ s.arrivals } := by
  cases opened : s.pool.opened with
  | none =>
    rw [sealBlock_none .full opened, fullSealed_none opened, State.arrivals, opened, Option.toList_none, List.map_nil,
      List.append_nil]
  | some o =>
    rw [sealBlock_open .full opened same, fullSealed_some opened, State.arrivals, opened]
    rfl

theorem fullSealed_remainingNow : s.fullSealed.remainingNow = s.remainingNow := by
  cases opened : s.pool.opened with
  | none => rw [fullSealed_none opened]
  | some o => rw [fullSealed_some opened, sealedWith_remainingNow s .full opened]

theorem fullSealed_opened : s.fullSealed.pool.opened = none := rfl

/-- The end of a step that may leave the report of a seal, for an engine in the middle of a write. -/
theorem finish_arrivals {j : Nat} {x u : State} (run : Settles j x u) (reports : u.signals = s.arrivals)
    (mid : s.pool.opened = none ∨ MidWrite u) (few : j ≤ 4095 := by decide) :
    finish x = .next (driveInhibit { u with signals := [] }) := by
  cases opened : s.pool.opened with
  | none =>
    have quiet : u.signals = [] := by rw [reports, State.arrivals, opened]; rfl
    rw [finish_of_settles run quiet (by omega), ← quiet]
  | some o =>
    rw [opened] at mid
    have one : u.signals = [.arrival] := by rw [reports, State.arrivals, opened]; rfl
    exact finish_midWrite run (mid.resolve_left (Option.some_ne_none o))
      (fun g mem => .inl (by simpa [one] using mem)) (by rw [one, List.length_singleton]; omega)

end Sealing

/-! ## The new block (R22, R41, R42) -/

/-- A state in which a new block has been opened, and R is `m`. -/
def State.starting (s : State) (m : Int) : State :=
  { s.fullSealed with
    pool := { s.fullSealed.pool with free := s.pool.free - 1, opened := some (OpenBlock.fresh s.params.sealDelay) }
    vom := { s.vom with remaining := some m }
    signals := s.signals ++ s.arrivals }

/-- A state with one record in its open block, and the next RSN behind it. -/
def State.placing (s : State) (r : Record) : State := placeRecord r { s with adu := { s.adu with nextRsn := some (r.rsn + 1) } }

section Opening

variable {s : State} {r : Record} {m : Int}

/-- With no block open there is nothing to seal. -/
theorem starting_none (closed : s.pool.opened = none) :
    s.starting m = { s with
      pool := { s.pool with free := s.pool.free - 1, opened := some (OpenBlock.fresh s.params.sealDelay) }
      vom := { s.vom with remaining := some m } } := by
  rw [State.starting, fullSealed_none closed, State.arrivals, closed, Option.toList_none, List.map_nil, List.append_nil]

theorem placeNew_opens (needs : s.needsBlock (footprint r.payload.length) = true) (free : 0 < s.pool.free)
    (counting : s.vom.counting = true) (now : RemainingIs s m) :
    placeNew r s = (evalLevel (s.starting (m - 1))).placing r := by
  have sealed_ := sealBlock_full (now.1.trans now.2.symm)
  have less : ({ s.fullSealed with
      pool := { s.fullSealed.pool with free := s.pool.free - 1, opened := some (OpenBlock.fresh s.params.sealDelay) }
      signals := s.signals ++ s.arrivals } : State).remainingNow = some (m - 1) := by
    have before := fullSealed_remainingNow.trans now.2
    unfold State.remainingNow at before ⊢
    dsimp only at before ⊢
    split at before
    next c p capacity point =>
      have value := Option.some.inj before
      rw [fullSealed_opened] at value
      refine congrArg some ?_
      simp at value ⊢
      omega
    next => cases before
  have changed : s.vom.remaining ≠ some (m - 1) := by
    rw [now.1]
    intro same
    have := Option.some.inj same
    omega
  have opens : openBlock (sealBlock .full s) = evalLevel (s.starting (m - 1)) := by
    rw [sealed_, openBlock, if_pos ⟨rfl, by exact free⟩]
    refine (if_pos (c := _ ∧ _) ⟨counting, ?_⟩).trans ?_
    · exact fun same => changed (same.trans less)
    · exact congrArg (fun v => evalLevel { s.starting (m - 1) with vom := { s.vom with remaining := v } }) less
  rw [placeNew, if_pos needs, opens]
  rfl

/-- The capacity level that follows one, with R and EW_RESERVE (R106). -/
def nextLevel (level : Option Level) (m : Int) (reserve : Nat) : Option Level :=
  if m ≤ 32 then some .full else if level = some .normal ∧ m ≤ reserve then some .low else level

theorem evalLevel_eq (counting : s.vom.counting = true) (remaining : s.vom.remaining = some m) :
    evalLevel s =
      if s.vom.level = some .normal ∧ nextLevel s.vom.level m s.params.ewReserve ≠ some .normal then
        postAll Port.all (.earlyWarning m s.params.ewReserve)
          { s with vom := { s.vom with level := nextLevel s.vom.level m s.params.ewReserve } }
      else { s with vom := { s.vom with level := nextLevel s.vom.level m s.params.ewReserve } } := by
  rw [evalLevel, remaining]
  exact if_pos counting

/-- The level where it is not NORMAL and R reaches the margin (R106). -/
theorem evalLevel_fills (counting : s.vom.counting = true) (remaining : s.vom.remaining = some m) (reached : m ≤ 32)
    (left : s.vom.level ≠ some .normal) : evalLevel s = { s with vom := { s.vom with level := some .full } } := by
  rw [evalLevel_eq counting remaining, if_neg fun ⟨normal, _⟩ => left normal, nextLevel, if_pos reached]

/-- A NORMAL level is left (R106, R107). -/
theorem evalLevel_warns (counting : s.vom.counting = true) (remaining : s.vom.remaining = some m)
    (normal : s.vom.level = some .normal) (leaves : m ≤ s.params.ewReserve ∨ m ≤ 32) :
    evalLevel s = postAll Port.all (.earlyWarning m s.params.ewReserve)
      { s with vom := { s.vom with level := if m ≤ 32 then some .full else some .low } } := by
  have level : nextLevel s.vom.level m s.params.ewReserve = if m ≤ 32 then some .full else some .low := by
    rw [nextLevel]
    split
    next => rfl
    next above => exact if_pos ⟨normal, leaves.resolve_right above⟩
  have other : (if m ≤ 32 then some Level.full else some Level.low) ≠ some .normal := by split <;> simp
  rw [evalLevel_eq counting remaining, level, if_pos ⟨normal, other⟩]

end Opening

/-! APPEND held for a buffer, and its evaluation when one is freed (R21, R25, R26, R55). -/

/-! ## A HELD head at a wake-up (R25, R55) -/

/-- A wake-up that finds no STARVED cursor: the Admission Unit's part, with two free choices used up. -/
theorem settles_wake_head {s w : State} {rest : List Signal} (queue : s.signals = .wake :: rest)
    (awake : ∀ p, (s.cursor p).phase ≠ .starved)
    (woken : ∀ k, wakeHead { s with signals := [], choice := k } = { w with choice := k }) (quiet : w.signals = [])
    (cursors : w.cursors = s.cursors) : Settles 3 s { w with signals := rest, choice := s.choice + 2 } := by
  have head (k : Nat) (u : State) (is : u = { s with signals := [], choice := k }) :
      handle .wakeAdmission u = { w with choice := k } := by
    rw [is]
    exact woken k
  have replay (u : State) (same : u.cursors = s.cursors) : handle .wakeReplay u = u.chosen :=
    wakeStarved_idle fun q => by
      rw [State.cursor, same]
      exact awake q
  have wake := Settles.report (u := wakeBoth { s with signals := [] }) queue rfl
  unfold wakeBoth at wake
  split at wake
  · have first := Settles.report (s := { s with signals := .wakeAdmission :: .wakeReplay :: rest, choice := s.choice + 1 })
      rfl (head (s.choice + 1) _ rfl)
    have second := Settles.report (s := { w with signals := .wakeReplay :: rest, choice := s.choice + 1 })
      rfl (replay _ cursors)
    have joined : w.signals ++ .wakeReplay :: rest = .wakeReplay :: rest := by rw [quiet, List.nil_append]
    rw [joined] at first
    exact wake.trans (first.trans second)
  · have first := Settles.report (s := { s with signals := .wakeReplay :: .wakeAdmission :: rest, choice := s.choice + 1 })
      rfl (replay _ rfl)
    have second := Settles.report (s := { s with signals := .wakeAdmission :: rest, choice := s.choice + 2 })
      rfl (head (s.choice + 2) _ rfl)
    have joined : w.signals ++ rest = rest := by rw [quiet, List.nil_append]
    rw [joined] at second
    exact wake.trans (first.trans second)

/-- The end of a verify pass whose buffer wakes a HELD head. -/
theorem finish_advanced_woken {t w : State} (quiet : t.signals = []) (closed : ∀ p, (t.cursor p).state = .closed)
    (awake : ∀ p, (t.cursor p).phase ≠ .starved) (woken : ∀ k, wakeHead { t with choice := k } = { w with choice := k })
    (still : w.signals = []) (cursors : w.cursors = t.cursors) (mid : MidWrite w) :
    finish (raise .engineCheck (raise .wake (raise .frontier t))) =
      .next (driveInhibit { w with choice := t.choice + 2 }) := by
  have moved := Settles.report (g := .frontier) (rest := [.wake, .engineCheck])
    (s := raise .engineCheck (raise .wake (raise .frontier t))) (by simp [raise, quiet])
    (frontierMoved_closed (s := { t with signals := [] }) closed)
  have wake := settles_wake_head (s := { t with signals := [.wake, .engineCheck] }) (w := w) rfl awake
    (fun k => by rw [← woken k, ← quiet]) still cursors
  have checked := Settles.last (s := { w with signals := [.engineCheck], choice := t.choice + 2 }) rfl
    (engineCheck_midWrite (s := { w with signals := [], choice := t.choice + 2 }) mid)
  refine (finish_of_settles ((moved.trans wake).trans checked) rfl).trans ?_
  rw [← still]

theorem wakeHead_held {s : State} {e : Entry} {rest : List Entry} (queue : s.adu.queue = e :: rest) (held : e.held = true) :
    wakeHead s = evalHead s := by
  rw [wakeHead, queue]
  exact if_pos held

/-! ## The record of a waiting APPEND -/

/-- A waiting APPEND's record carries the bytes of its frame (R22). -/
theorem recordFor_waiting {s : State} {p : Port} {t : Tag} {x : StreamId} {flags : Byte} {d : List Byte} (sync : Bool) (r : Nat)
    (frame : (s.slot p t).frame = some { kind := 1, payload := appendPayload x flags d }) :
    s.recordFor p t (.append x sync d.length) r = stampRecord s .data x.val p.val sync d r := by
  have data : (s.slot p t).data d.length = d := by
    rw [TagSlot.data, frame]
    exact data_append x flags d
  rw [State.recordFor, data]

/-- An APPEND whose record needs a block, with none FREE, is HELD (R21). -/
theorem verdict_held {s : State} {p : Port} {x : StreamId} {sync : Bool} {len : Nat} {m : Int} (ready : s.vom.state = .ready)
    (opened : (s.stream x).isOpen = true) (free : Unclaimed s p x) (needs : s.needsBlock (footprint len) = true)
    (none_ : s.pool.free = 0) (remaining : s.vom.remaining = some m) (above : 33 ≤ m) :
    s.verdict p (.append x sync len) = .held := by
  have margin : ¬m - 1 < Config.closeMargin := by simp only [Config.closeMargin]; omega
  rw [verdict_eq_spaceTest ready (kindTest_append sync len opened free)]
  simp only [State.spaceTest, Writing.foot, Writing.margin, needs, none_, remaining, Option.getD_some, margin, and_false,
    if_false, and_self, if_true]

theorem needsBlock_full {s : State} {foot : Nat}
    (full : s.pool.opened = none ∨ ∃ o, s.pool.opened = some o ∧ 2016 < o.fill + foot) : s.needsBlock foot = true := by
  rw [State.needsBlock_iff]
  intro o opened
  obtain none_ | ⟨o', opened', above⟩ := full
  · rw [none_] at opened
    cases opened
  · rw [opened'] at opened
    cases opened
    exact above

/-- A reply given in a state with the ports, the LOW level and the clock of another. -/
theorem reply_now_of {s w : State} {p : Port} {t : Tag} (can : CanReply s p t) (ports : w.ports = s.ports) (low : w.low = s.low)
    (clock : w.adu.clock = s.adu.clock) (st : Status) (body : ReplyBody) :
    reply p t st body w = { w with ports := s.replied p t st body (s.replyMarks p t) } := by
  have slot : w.slot p t = s.slot p t := by rw [State.slot, State.slot, State.port, State.port, ports]
  have port : w.port p = s.port p := by rw [State.port, State.port, ports]
  rw [reply_now (s := w) (by rw [CanReply, slot, port]; exact can), State.replyMarks, State.replyMarks, State.marks,
    State.marks, low, clock, slot, State.replied, State.replied, slot, port, ports]

/-- An APPEND without the sync flag whose record starts a new block (R22, R41). -/
theorem admission_append_opens {s : State} {p : Port} {t : Tag} {x : StreamId} {flags : Byte} {d : List Byte} {r : Nat} {m : Int}
    (frame : (s.slot p t).frame = some { kind := 1, payload := appendPayload x flags d }) (next : s.adu.nextRsn = some r)
    (needs : s.needsBlock (footprint d.length) = true) (free : 0 < s.pool.free) (counting : s.vom.counting = true)
    (now : RemainingIs s m) :
    admission p t (.append x false d.length) s = reply p t .done (.rsn (some r)) (countRecord x r
      ((evalLevel (s.starting (m - 1))).placing (stampRecord s .data x.val p.val false d r))) := by
  rw [admission_record next Writing.noConfusion, recordFor_waiting false r frame,
    placeNew_opens (by exact needs) free counting now]
  rfl

theorem replyMarks_append {s : State} {p : Port} {t : Tag} {b : List Byte}
    (frame : (s.slot p t).frame = some { kind := 1, payload := b }) :
    s.replyMarks p t = { s.marks with clockUnset := s.adu.clock.isNone } := by
  have kind : (s.slot p t).kindByte = 1 := by rw [TagSlot.kindByte, frame]
  rw [State.replyMarks, kind]
  simp

/-- Settles O26. -/
theorem appendHeld : Obligations.AppendHeld := by
  constructor
  · intro s p t x flags d m h isOpen free short none_ now above full
    have run := settles_writing (k := 1) h.1 h.2.1 h.2.2.1 (length_appendPayload x flags short) (parse_append x flags short)
    have needs : s.needsBlock (footprint d.length) = true :=
      needsBlock_full (full.imp id fun ⟨o, opened, above, _⟩ => ⟨o, opened, above⟩)
    have verdict := verdict_held (sync := flags.getLsbD 0) h.2.2.2 isOpen free needs none_ now.1 above
    have same : s.vom.remaining = s.remainingNow := now.1.trans now.2.symm
    rw [evalHead_held (e := s.entry p t (.append x (flags.getLsbD 0) d.length)) rfl
      ((verdict_queuing s p p t 1 _ _ _).trans verdict), sealBlock_full (by exact same)] at run
    have ends := finish_arrivals (s := s) run (by simp [State.setQueue, h.1.1.1.2, State.arrivals,
      State.queuing]) (full.imp id fun ⟨_, _, _, mid⟩ => mid)
    exact ends.trans (by
      rw [← h.1.1.1.2]
      rfl)
  · intro s u slot v later e x flags d ⟨running, quiet⟩ entries named fresh stops silent mid closed none_ free queue held request
      noSync frame short can eq
    obtain ⟨t, isT⟩ : ∃ t : State, t = s.advanced v [] later := ⟨_, rfl⟩
    have passes : exec (.verifyResult slot true) s =
        finish (raise .engineCheck (raise .wake (raise .frontier t))) := by
      rw [exec_verifyResult running, verifyReport_passes entries named fresh, isT]
      exact congrArg (fun a => finish (raise .engineCheck (raise .wake (raise .frontier a))))
        (advance_silent (run := []) (by simp) stops (by simpa using silent))
    have base (k : Nat) : { t with choice := k } = { u with choice := k } := by
      rw [isT, eq, State.advanced, free]
      rfl
    have evaluated (k : Nat) : wakeHead { t with choice := k } = evalHead { u with choice := k } := by
      rw [base, wakeHead_held (e := e) (rest := []) (by rw [eq]; exact queue) held]
    have ends {w : State} (woken : ∀ k, evalHead { u with choice := k } = { w with choice := k }) (still : w.signals = [])
        (cursors : w.cursors = s.cursors) (midW : MidWrite w) (choice : w.choice = s.choice + 2) :
        exec (.verifyResult slot true) s = .next (driveInhibit w) := by
      rw [passes, finish_advanced_woken (t := t) (w := w) (by rw [isT]; exact quiet)
        (by rw [isT]; exact fun p => (closed p).1)
        (by rw [isT]; intro p; rw [show ((s.advanced v [] later).cursor p).phase = (s.cursor p).phase from rfl,
          (closed p).2]; exact Phase.noConfusion)
        (fun k => (evaluated k).trans (woken k)) still (by rw [cursors, isT]; rfl) midW,
        show t.choice + 2 = w.choice by rw [isT, choice]; rfl]
    have low : u.low = s.low := by rw [eq]; rfl
    have ports : u.ports = s.ports := by rw [eq]
    have adu : u.adu = s.adu := by rw [eq]
    have quietU : u.signals = [] := by rw [eq]; exact quiet
    have midU : MidWrite u := by rw [eq]; exact mid
    have marks := replyMarks_append frame
    refine ⟨fun st refused => ?_, fun r m passed next now stays => ?_⟩
    · refine ends (fun k => ?_) quietU (by rw [eq]) midU (by rw [eq])
      have verdict : ({ u with choice := k } : State).verdict e.port e.request = .refused st := State.verdict_refused refused
      have answer := reply_now_of (w := ({ u with choice := k } : State).setQueue []) can ports low (by rw [← adu]; rfl) st .empty
      rw [evalHead_refused (rest := []) (by rw [eq]; exact queue) verdict, evalNext_empty (by simp [State.setQueue]),
        answer, marks, State.setQueue, adu]
    · have ready : u.vom.state = .ready := by
        by_contra other
        simp [State.writingRefusal, other] at passed
      have verdict (k : Nat) : ({ u with choice := k } : State).verdict e.port e.request = .granted := by
        have one : ({ u with choice := k } : State).pool.free ≠ 0 := by rw [eq]; exact Nat.one_ne_zero
        rw [State.verdict_passed (by exact passed) (by rw [request]; trivial), if_neg fun ⟨_, zero⟩ => one zero]
      refine ends (fun k => ?_) quietU (by rw [eq]) midU (by rw [eq])
      obtain ⟨y, isY⟩ : ∃ y : State, y = ({ u with choice := k } : State).setQueue [] := ⟨_, rfl⟩
      have slot : y.slot e.port e.tag = s.slot e.port e.tag := by rw [isY, eq]; rfl
      have opens := admission_append_opens (s := y) (m := m) (slot ▸ frame) (r := r) (by rw [isY, eq]; exact next)
        (needsBlock_full (.inl (by rw [isY, eq]; exact none_))) (by rw [isY, eq]; exact Nat.one_pos)
        (by rw [isY]; exact (by simp [VolumeRecord.counting, State.setQueue, ready])) (by rw [isY, eq]; exact now)
      have stays' : evalLevel (y.starting (m - 1)) = y.starting (m - 1) := evalLevel_stays rfl (by rw [isY, eq]; exact stays)
      have starts := starting_none (s := y) (m := m - 1) (by rw [isY, eq]; exact none_)
      have answer := reply_now_of (w := countRecord x r ((y.starting (m - 1)).placing
        (stampRecord y .data x.val e.port.val false d r))) can (by rw [isY, eq]; rfl)
        (by rw [isY, eq]; rfl) (by rw [isY, eq]; rfl) .done (.rsn (some r))
      rw [evalHead_granted (rest := []) (by rw [eq]; exact queue) (verdict k), request, ← isY, opens, stays', answer, marks,
        evalNext_empty (by rw [isY]; rfl), starts, isY]
      have srt : u.srt = s.srt := by rw [eq]
      have pool : u.pool = { s.pool with free := 1 } := by rw [eq]
      have params : u.params = s.params := by rw [eq]
      simp only [State.setQueue, State.placing, placeRecord, countRecord, State.setStream, State.stream, stampRecord, adu, srt,
        pool,
        params, OpenBlock.place, OpenBlock.fresh, footprint, Option.map_some]
      simp [free]

/-! What a posting leaves of the notice queues and the ports (R156, R157, R171). -/

/-! ## The notices of a queue -/

/-- The notices of a queue, the oldest first. -/
def NoticeUnit.bodies (n : NoticeUnit) : List Notice := n.queue.map fun e => e.body

theorem State.bodies_eq (s : State) (p : Port) : s.bodies p = (s.notices p).bodies := rfl

theorem bodies_placeOne (w : WaitItem) (h : HostPort) (n : NoticeUnit) : (placeOne w h n).2.bodies = n.bodies := by
  unfold placeOne
  split
  next => split <;> rfl
  next k =>
    split
    next =>
      have same : ∀ e : NoticeEntry, (if e.number = k then { e with sent := true } else e).body = e.body := by
        intro e
        split <;> rfl
      simp [NoticeUnit.bodies, Function.comp_def, same]
    next => rfl

/-- Placing sends notices and changes none. -/
theorem bodies_placeItems (ws : List WaitItem) (h : HostPort) (n : NoticeUnit) : (placeItems ws h n).2.bodies = n.bodies := by
  induction ws generalizing h n with
  | nil => rfl
  | cons w ws ih =>
    rw [placeItems]
    split
    next => exact (ih _ _).trans (bodies_placeOne w h n)
    next => rfl

section Bodies

variable {s t : State} {p q : Port} {body : Notice}

theorem bodies_of_ntu (ntu : t.ntu = s.ntu) : t.bodies q = s.bodies q := by
  rw [State.bodies, State.bodies, State.notices, State.notices, ntu]

@[simp] theorem bodies_place : (place p s).bodies q = s.bodies q := by
  rw [State.bodies_eq, State.bodies_eq, State.notices_place]
  split
  next same =>
    subst same
    exact bodies_placeItems _ _ _
  next => rfl

@[simp] theorem bodies_replyWith {x : Tag} {st : Status} {b : ReplyBody} {already gap : Bool} :
    (replyWith p x st b already gap s).bodies q = s.bodies q := by
  by_cases idle : (s.slot p x).state = .idle
  · rw [replyWith_idle p x st b already gap s idle]
  · rw [replyWith, if_neg idle]
    exact bodies_place

theorem bodies_repliesTo {st : Status} {b : Option Nat → ReplyBody} {ws : List (Port × Tag)} :
    (repliesTo st b ws s).bodies q = s.bodies q := by
  induction ws generalizing s with
  | nil => rfl
  | cons w ws ih => exact ih.trans bodies_replyWith

theorem bodies_post_same : (post p body s).bodies p = posted body (s.bodies p) := by
  rw [post]
  rw [bodies_place, State.bodies, State.notices_setNotices_same, posted, State.bodies, List.map_append, List.map_singleton,
    List.filter_map, List.filter_map, List.foldl_map]
  rfl

theorem post_other (other : q ≠ p) : (post q body s).port p = s.port p ∧ (post q body s).notices p = s.notices p := by
  rw [post]
  simp [State.port_setPort, State.notices_setNotices, other]

theorem bodies_post_other (other : q ≠ p) : (post q body s).bodies p = s.bodies p := by
  rw [State.bodies, State.bodies, (post_other other).2]

theorem post_onlyPorts : OnlyPorts s (post p body s) := rfl

theorem postAll_onlyPorts {ports : List Port} : OnlyPorts s (postAll ports body s) := by
  induction ports generalizing s with
  | nil => exact .refl s
  | cons q ports ih => exact post_onlyPorts.trans ih

theorem postAll_other {ports : List Port} (other : p ∉ ports) :
    (postAll ports body s).port p = s.port p ∧ (postAll ports body s).notices p = s.notices p := by
  induction ports generalizing s with
  | nil => exact ⟨rfl, rfl⟩
  | cons q ports ih =>
    obtain ⟨apart, rest⟩ := not_or.mp (mt List.mem_cons.mpr other)
    obtain ⟨port, notices⟩ := ih (s := post q body s) rest
    obtain ⟨port', notices'⟩ := post_other (s := s) (body := body) (Ne.symm apart)
    exact ⟨port.trans port', notices.trans notices'⟩

/-- A port that is posted to, among others. -/
theorem postAll_mem {ports : List Port} (distinct : ports.Nodup) (mem : p ∈ ports) :
    ∃ u, u.port p = s.port p ∧ u.notices p = s.notices p ∧
      (postAll ports body s).port p = (post p body u).port p ∧ (postAll ports body s).notices p = (post p body u).notices p := by
  induction ports generalizing s with
  | nil => cases mem
  | cons q ports ih =>
    obtain ⟨apart, rest⟩ := List.nodup_cons.mp distinct
    by_cases same : p = q
    · subst same
      obtain ⟨port, notices⟩ := postAll_other (s := post p body s) (body := body) apart
      exact ⟨s, rfl, rfl, port, notices⟩
    · obtain ⟨u, port, notices, after⟩ := ih (s := post q body s) rest ((List.mem_cons.mp mem).resolve_left same)
      obtain ⟨port', notices'⟩ := post_other (s := s) (body := body) (Ne.symm same)
      exact ⟨u, port.trans port', notices.trans notices', after⟩

theorem bodies_postAll {ports : List Port} (distinct : ports.Nodup) (mem : p ∈ ports) :
    (postAll ports body s).bodies p = posted body (s.bodies p) := by
  obtain ⟨u, -, notices, -, after⟩ := postAll_mem (s := s) (body := body) distinct mem
  rw [State.bodies, after, ← State.bodies, bodies_post_same, State.bodies, notices, ← State.bodies]

theorem mem_portAll : p ∈ Port.all := by revert p; decide

theorem nodup_portAll : Port.all.Nodup := by decide

theorem bodies_postAll_all : (postAll Port.all body s).bodies p = posted body (s.bodies p) :=
  bodies_postAll nodup_portAll mem_portAll

theorem mem_otherPorts : q ∈ Port.all.filter (fun q => q ≠ p) ↔ q ≠ p := by simp [mem_portAll]

end Bodies

/-! ## The slots of a port that is posted to -/

/-- Placing frees only slots that hold a reply. -/
theorem slot_placeItems (ws : List WaitItem) (h : HostPort) (n : NoticeUnit) (x : Tag) (none_ : (h.slot x).reply = none) :
    (placeItems ws h n).1.slot x = h.slot x := by
  have one (w : WaitItem) (h : HostPort) (n : NoticeUnit) (none_ : (h.slot x).reply = none) :
      (placeOne w h n).1.slot x = h.slot x := by
    unfold placeOne
    split
    next t =>
      split
      next r holds =>
        have apart : t ≠ x := fun same => by rw [same, none_] at holds; cases holds
        simp [HostPort.slot, HostPort.setSlot, Fin.val_ne_of_ne apart]
      next => rfl
    next => split <;> rfl
  induction ws generalizing h n with
  | nil => rfl
  | cons w ws ih =>
    rw [placeItems]
    split
    next =>
      have first := one w h n none_
      exact (ih _ _ (by rw [first]; exact none_)).trans first
    next => rfl

theorem slotsKept_post {s : State} {p : Port} {body : Notice} : SlotsKept p s (post p body s) := by
  intro x none_
  rw [post]
  rw [State.slot, State.port_place, if_pos rfl, State.port_setNotices, State.port_setPort_same]
  exact slot_placeItems _ _ _ x none_

theorem slotsKept_postAll {s : State} {p : Port} {ports : List Port} {body : Notice} (distinct : ports.Nodup) (mem : p ∈ ports) :
    SlotsKept p s (postAll ports body s) := by
  intro x none_
  obtain ⟨u, port, -, after, -⟩ := postAll_mem (s := s) (body := body) distinct mem
  have same : u.slot p x = s.slot p x := by rw [State.slot, State.slot, port]
  rw [State.slot, after, ← State.slot, slotsKept_post x (by rw [same]; exact none_), same]

/-! ## The transmit queue of a port that is posted to -/

/-- A notice that alone waits goes out at once where there is room. -/
theorem placeItems_notice {k : BitVec 16} {h : HostPort} {n : NoticeUnit} {e : NoticeEntry} (up : h.up = true)
    (room : h.transmit.length < 12) (found : n.queue.find? (fun e => e.number == k) = some e) :
    placeItems [.notice k] h n = ({ h with transmit := h.transmit ++ [.notice k e.body], waiting := [] },
      { n with queue := n.queue.map fun e => if e.number = k then { e with sent := true } else e }) := by
  rw [placeItems, if_pos ⟨up, room⟩, placeItems, placeOne, found]

/-- A notice goes out at once where there is room and nothing waits, and the tags stand. -/
theorem port_post_room {s : State} {p : Port} {body : Notice} (up : (s.port p).up = true) (clear : (s.port p).waiting = [])
    (room : (s.port p).transmit.length < 12) :
    ∃ front, (post p body s).port p = { s.port p with transmit := front } ∧
      front.length ≤ (s.port p).transmit.length + 1 := by
  obtain ⟨old, isOld⟩ : ∃ old, old = (s.notices p).queue.filter fun e => e.body.code = body.code := ⟨_, rfl⟩
  obtain ⟨rest, isRest⟩ : ∃ rest, rest = (s.notices p).queue.filter fun e => e.body.code ≠ body.code := ⟨_, rfl⟩
  obtain ⟨k, isK⟩ : ∃ k, k = freshNumber rest 8 (s.notices p).counter := ⟨_, rfl⟩
  have short := length_withdraw old (s.port p)
  obtain ⟨new, isNew⟩ : ∃ new : NoticeEntry, new =
      { number := k, body := old.foldl (fun b e => e.body.combine b) body, sent := false } := ⟨_, rfl⟩
  obtain ⟨e, found⟩ : ∃ e, (rest ++ [new]).find? (fun e => e.number == k) = some e := by
    rw [← Option.isSome_iff_exists, List.find?_isSome]
    exact ⟨new, List.mem_append_right _ List.mem_cons_self, by simp [isNew]⟩
  have waits : ((s.port p).withdraw old).waiting = [] := by simp [HostPort.withdraw, clear]
  refine ⟨((s.port p).withdraw old).transmit ++ [.notice k e.body], ?_, ?_⟩
  · rw [post, ← isOld, ← isRest, ← isK, State.port_place, if_pos rfl, State.port_setNotices, State.port_setPort_same,
      State.notices_setNotices_same, waits, List.nil_append, ← isNew,
      placeItems_notice (by exact up) (by exact Nat.lt_of_le_of_lt short room) (by exact found), ← clear]
    rfl
  · rw [List.length_append, List.length_singleton]
    omega

/-! Admissions that post notices: SET_CLOCK (R31), and an APPEND whose new block changes the capacity level (R106, R107). -/

/-! ## The reply behind a posting -/

section ReplyPort

variable {s x : State} {p q : Port} {t : Tag} {st : Status} {body : ReplyBody}

/-- A reply that is placed at once leaves its port with one frame more and the tag IDLE. -/
theorem reply_port (can : CanReply x p t) :
    (reply p t st body x).port p = { x.port p with
      tags := (x.port p).tags.set t TagSlot.idle
      transmit := (x.port p).transmit ++ [x.replyTo p st body x.low t] } := by
  rw [reply_now can]
  simp [State.port, State.replied, State.replyTo, State.replyMarks, State.marks]

theorem reply_ntu (can : CanReply x p t) : (reply p t st body x).ntu = x.ntu := by rw [reply_now can]

theorem reply_port_other (other : p ≠ q) : (reply p t st body x).port q = x.port q := (replyWith_other other).1

end ReplyPort

/-! ## SET_CLOCK (R31) -/

theorem parse_setClock {v : Nat} (fits : v < 281474976710656) :
    parseRequest (3 : Byte).toNat (beBytes 6 v) = some (.writing (.setClock v)) := by
  have value : beNat (beBytes 6 v) = v := beNat_beBytes 6 v fits
  change parseSetClock (beBytes 6 v) = _
  rw [parseSetClock, if_pos (by simp), value]

theorem kindTest_setClock {s : State} {p : Port} {v : Nat} (free : ∀ q, q ≠ p → s.srt.volume ≠ some q)
    (ahead : ∀ c, s.adu.clock = some c → c ≤ v) : s.kindTest p (.setClock v) = none := by
  have notAbove : s.clockAbove v = false := by
    rw [State.clockAbove_eq]
    cases clock : s.adu.clock with
    | none => rfl
    | some c => simp [ahead c clock]
  simp [State.kindTest, heldByOther_free free, notAbove]

theorem clockPayload_eq (clock : Option Nat) : clockPayload clock = match clock with
    | none => List.replicate 8 255
    | some c => beBytes 8 c := by
  cases clock <;> rfl

/-- Settles O29: the record, the postings to the other ports, and the reply. -/
theorem Settled.setClock : Obligations.SetClock := by
  intro s p t v o r h free fits ahead opened later room next lt
  have length : footprint (clockPayload s.adu.clock).length = 24 := by
    rw [clockPayload_eq]
    cases s.adu.clock <;> simp [footprint]
  obtain ⟨record, isRecord⟩ : ∃ record : Record, record =
    { stampRecord s .clockSet 255 p.val false (clockPayload s.adu.clock) r with timestamp := v, clockUnset := false } :=
    ⟨_, rfl⟩
  have run := settles_admitted (k := 3) (record := record) h (by simp) (parse_setClock fits) Writing.noConfusion
    (kindTest_setClock free ahead) opened later (foot := 24) rfl room next lt (by rw [isRecord]; rfl)
    (by rw [isRecord]; exact length)
  obtain ⟨w, isW⟩ : ∃ w : State, w = s.recorded p t 3 (beBytes 6 v) o record 24 := ⟨_, rfl⟩
  obtain ⟨x, isX⟩ : ∃ x : State, x = postAll (Port.all.filter fun q => q ≠ p) (.clockSet v p)
    { w with adu := { w.adu with clock := some v } } := ⟨_, rfl⟩
  have distinct : (Port.all.filter fun q => q ≠ p).Nodup := nodup_portAll.filter _
  have only : OnlyPorts { w with adu := { w.adu with clock := some v } } x := by rw [isX]; exact postAll_onlyPorts
  obtain ⟨port, notices⟩ : x.port p = w.port p ∧ x.notices p = s.notices p := by
    have kept := postAll_other (s := { w with adu := { w.adu with clock := some v } }) (body := .clockSet v p)
      (p := p) (ports := Port.all.filter fun q => q ≠ p) (by simp)
    rw [isX]
    exact ⟨kept.1, kept.2.trans (by rw [isW]; rfl)⟩
  have taken : w.port p = (s.taken p t (TagSlot.queued 3 (beBytes 6 v)))[p] := by rw [isW]; rfl
  rw [taken] at port
  have slot : x.slot p t = TagSlot.queued 3 (beBytes 6 v) := by
    rw [State.slot, port]
    simp [State.taken, HostPort.slot]
  obtain ⟨⟨⟨-, quiet⟩, clear⟩, -, few⟩ := h.1
  have can : CanReply x p t := by
    rw [CanReply, slot, port]
    simp only [State.taken, Fin.getElem_fin, Vector.getElem_set_self]
    exact ⟨TagState.noConfusion, trivial, clear, few⟩
  have after : afterRecord p t (.setClock v) r w = reply p t .done (.rsn (some r)) x := by rw [isX]; rfl
  obtain ⟨-, ctl, params, adu, pool, mpt, ape, vom, -, -, cursors, srt, signals, -⟩ :=
    (only.trans (reply_onlyPorts p t .done (.rsn (some r)) x)).keeps
  rw [← isW, after, evalNext_empty (by rw [adu, isW]; exact h.2.2.1)] at run
  refine ⟨_, finish_of_settles run (by rw [signals, isW]; exact quiet), ?_, ?_, ?_, ?_, fun q other => ⟨?_, ?_⟩, ?_, ?_, ?_, ?_, ?_,
    ?_, ?_⟩
  · exact adu.trans (by rw [isW, isRecord]; rfl)
  · exact pool.trans (by rw [isW, isRecord, clockPayload_eq]; rfl)
  · refine (reply_port can).trans ?_
    have low : x.low = s.low := only.low.trans (by rw [isW]; rfl)
    rw [State.replyTo, slot, port, low]
    simp [State.taken, State.answered, State.port, TagSlot.queued, TagSlot.dispatch, TagSlot.kindByte, State.marks]
  · exact (congrArg (fun n : Vector NoticeUnit 4 => n[p.val]) (reply_ntu can)).trans notices
  · exact bodies_replyWith.trans ((congrArg (fun y : State => y.bodies q) isX).trans
      ((bodies_postAll distinct (by simpa [mem_portAll] using other)).trans (by rw [isW]; rfl)))
  · intro y none_
    have replied : (reply p t .done (.rsn (some r)) x).slot q y = x.slot q y := by
      rw [State.slot, reply_port_other (Ne.symm other), ← State.slot]
    have same : w.slot q y = s.slot q y := by
      rw [isW]
      simp [State.slot, State.port, State.recorded, State.taken, Fin.val_ne_of_ne (Ne.symm other)]
    have kept := slotsKept_postAll (s := { w with adu := { w.adu with clock := some v } }) (body := .clockSet v p) distinct
      (p := q) (by simpa [mem_portAll] using other) y (by exact same ▸ none_)
    exact replied.trans ((congrArg (fun z : State => z.slot q y) isX).trans (kept.trans same))
  · exact params.trans (by rw [isW]; rfl)
  · exact ctl.trans (by rw [isW]; rfl)
  · exact vom.trans (by rw [isW]; rfl)
  · exact ape.trans (by rw [isW]; rfl)
  · exact mpt.trans (by rw [isW]; rfl)
  · exact srt.trans (by rw [isW]; rfl)
  · exact cursors.trans (by rw [isW]; rfl)

/-! ## APPEND that opens a new block (R22, R41, R44, R106) -/

/-- The space tests of an APPEND that needs a block, with one FREE (R20, R21, R27). -/
theorem verdict_opens {s : State} {p : Port} {x : StreamId} {sync : Bool} {len r : Nat} {m : Int} (ready : s.vom.state = .ready)
    (opened : (s.stream x).isOpen = true) (free : Unclaimed s p x) (some_ : 0 < s.pool.free)
    (remaining : s.vom.remaining = some m) (above : 33 ≤ m) (next : s.adu.nextRsn = some r) (lt : r < 281474976710656) :
    s.verdict p (.append x sync len) = .granted := by
  have margin : ¬m - 1 < Config.closeMargin := by simp only [Config.closeMargin]; omega
  have notZero : s.pool.free ≠ 0 := Nat.ne_of_gt some_
  rw [verdict_eq_spaceTest ready (kindTest_append sync len opened free)]
  simp [State.spaceTest, Writing.margin, remaining, margin, notZero, rsnExhausted_of_lt next lt]

theorem OnlyPorts.recording {a b : State} (only : OnlyPorts a b) (x : StreamId) (r : Nat) (record : Record) :
    OnlyPorts (countRecord x r (a.placing record)) (countRecord x r (b.placing record)) := by
  rw [OnlyPorts] at *
  rw [only]
  rfl

/-- The end of a step with one reply, behind steps that touched the ports only, and perhaps the report of a seal. -/
theorem finish_reply_behind {s x z w : State} {p : Port} {t : Tag} {st : Status} {body : ReplyBody}
    (run : Settles 1 x (evalNext (reply p t st body w))) (only : OnlyPorts z w) (can : CanReply w p t)
    (empty : z.adu.queue = []) (reports : z.signals = s.arrivals) (mid : s.pool.opened = none ∨ MidWrite z) :
    ∃ v, finish x = .next (driveInhibit v) ∧ OnlyPorts { z with signals := [] } v ∧ v.ntu = w.ntu ∧
      v.port p = { w.port p with
        tags := (w.port p).tags.set t TagSlot.idle
        transmit := (w.port p).transmit ++ [w.replyTo p st body w.low t] } := by
  have both := only.trans (reply_onlyPorts p t st body w)
  obtain ⟨-, -, -, adu, -, -, ape, -, -, -, -, -, signals, -⟩ := both.keeps
  rw [evalNext_empty (by rw [adu]; exact empty)] at run
  refine ⟨{ reply p t st body w with signals := [] }, finish_arrivals (s := s) run (signals.trans reports)
    (mid.imp id fun mid => by rw [MidWrite, ape]; exact mid), ?_, reply_ntu can, reply_port can⟩
  rw [OnlyPorts] at *
  rw [both]

theorem port_postAll_room {s : State} {p : Port} {ports : List Port} {body : Notice} (distinct : ports.Nodup) (mem : p ∈ ports)
    (up : (s.port p).up = true) (clear : (s.port p).waiting = []) (room : (s.port p).transmit.length < 12) :
    ∃ front, (postAll ports body s).port p = { s.port p with transmit := front } ∧
      front.length ≤ (s.port p).transmit.length + 1 := by
  obtain ⟨v, port, -, after, -⟩ := postAll_mem (s := s) (body := body) distinct mem
  obtain ⟨front, placed, long⟩ := port_post_room (s := v) (p := p) (body := body) (port ▸ up) (port ▸ clear) (port ▸ room)
  exact ⟨front, by rw [after, placed, port], port ▸ long⟩

section Warned

variable {s u y z : State} {p : Port} {t : Tag} {x : StreamId} {flags : Byte} {d : List Byte} {r : Nat} {m : Int}
  {record : Record} {l : Level}

/-- The end of an APPEND behind an EARLY_WARNING (R22, R107). -/
theorem append_warned (h : AtHead s p t) (few : (s.port p).transmit.length < 11)
    (full : s.pool.opened = none ∨ MidWrite s) (isY : y = s.admitting p t 1 (appendPayload x flags d))
    (isZ : z = { y.starting (m - 1) with vom := { s.vom with remaining := some (m - 1), level := some l } })
    (left : l ≠ .normal)
    (run : Settles 1 (takeRequest p t 1 (appendPayload x flags d) s) (evalNext (reply p t .done (.rsn (some r)) (countRecord x r
      (State.placing (postAll Port.all (.earlyWarning (m - 1) s.params.ewReserve) z) record))))) :
    ∃ v front, exec (.append p t (appendPayload x flags d)) s = .next (driveInhibit v) ∧
      OnlyPorts { countRecord x r (z.placing record) with signals := [] } v ∧
      (∀ q, v.bodies q = posted (.earlyWarning (m - 1) s.params.ewReserve) (s.bodies q)) ∧
      (v.port p).transmit = front ++ [.reply {
        tag := t, kind := 1, status := .done, body := .rsn (some r)
        indicators := { low := true, clockUnset := s.adu.clock.isNone, already := false, gap := false } }] ∧
      (v.slot p t).state = .idle := by
  obtain ⟨-, clear⟩ := h.1.1
  have port : z.port p = { s.port p with
      up := true, activity := some 20, errors := 0
      tags := (s.port p).tags.set t (TagSlot.queued 1 (appendPayload x flags d)) } := by
    rw [isZ, isY]
    simp [State.port, State.starting, State.fullSealed, State.admitting, State.taken]
  obtain ⟨front, placed, long⟩ := port_postAll_room (s := z) (p := p) (body := .earlyWarning (m - 1) s.params.ewReserve)
    nodup_portAll mem_portAll (by rw [port]) (by rw [port]; exact clear) (by rw [port]; exact few.trans (by decide))
  have posts := postAll_onlyPorts (s := z) (body := .earlyWarning (m - 1) s.params.ewReserve) (ports := Port.all)
  have bodies (q : Port) := bodies_postAll_all (s := z) (p := q) (body := .earlyWarning (m - 1) s.params.ewReserve)
  generalize postAll Port.all (.earlyWarning (m - 1) s.params.ewReserve) z = a at *
  obtain ⟨w, isW⟩ : ∃ w : State, w = countRecord x r (a.placing record) := ⟨_, rfl⟩
  have only : OnlyPorts (countRecord x r (z.placing record)) w := isW ▸ posts.recording x r record
  rw [port] at placed long
  have portW : w.port p = a.port p := by rw [isW]; rfl
  rw [placed] at portW
  have slotW : w.slot p t = TagSlot.queued 1 (appendPayload x flags d) := by
    rw [State.slot, portW]
    simp [HostPort.slot]
  have can : CanReply w p t := by
    rw [CanReply, slotW, portW]
    exact ⟨TagState.noConfusion, rfl, clear, Nat.lt_of_le_of_lt long (Nat.succ_lt_succ few)⟩
  have quiet : s.signals ++ s.arrivals = s.arrivals := by rw [h.1.1.1.2, List.nil_append]
  have low : w.low = true := by
    have loaded : ({ s.vom with remaining := some (m - 1), level := some l } : VolumeRecord).loaded = true := by
      simp [VolumeRecord.loaded, h.2.2.2]
    have either : (some l == some Level.low || some l == some .full) = true := by
      revert left
      cases l <;> simp
    rw [only.low, isZ]
    exact Bool.and_eq_true_iff.mpr ⟨loaded, either⟩
  rw [← isW] at run
  obtain ⟨v, run', after, ntu, replied⟩ := finish_reply_behind (s := s) run only can (by rw [isZ, isY]; exact h.2.2.1)
    (by rw [isZ, isY]; exact quiet) (full.imp id fun mid => by rw [isZ, isY]; exact mid)
  refine ⟨v, front, run', after, fun q => ?_, ?_, ?_⟩
  · rw [bodies_of_ntu ntu, isW]
    exact (bodies q).trans (by rw [isZ, isY]; rfl)
  · have clock : w.adu.clock = s.adu.clock := by
      obtain ⟨-, -, -, adu, -⟩ := only.keeps
      rw [adu, isZ, isY]
      rfl
    rw [replied, State.replyTo, low, slotW, portW, clock]
    simp [TagSlot.queued, TagSlot.dispatch, TagSlot.kindByte]
  · rw [State.slot, replied]
    simp [HostPort.slot, TagSlot.idle]

end Warned

/-- Settles O25. -/
theorem appendOpensBlock : Obligations.AppendOpensBlock := by
  intro s u p t x flags d r m h isOpen unclaimed noSync short next lt free now full eq
  have parsed := parse_append x flags short
  rw [noSync] at parsed
  have needs : s.needsBlock (footprint d.length) = true :=
    needsBlock_full (full.imp id fun ⟨o, opened, above, _⟩ => ⟨o, opened, above⟩)
  obtain ⟨y, isY⟩ : ∃ y : State, y = s.admitting p t 1 (appendPayload x flags d) := ⟨_, rfl⟩
  have slot : y.slot p t = TagSlot.queued 1 (appendPayload x flags d) := by rw [isY]; exact taken_slot s p t _ _ rfl
  have opens := admission_append_opens (s := y) (p := p) (t := t) (x := x) (flags := flags) (d := d) (r := r) (m := m)
    (by rw [slot]; rfl) (by rw [isY]; exact next) (by rw [isY]; exact needs) (by rw [isY]; exact free)
    (by rw [isY]; simp [VolumeRecord.counting, State.admitting, h.2.2.2]) (by rw [isY]; exact now)
  have run (above : 33 ≤ m) : Settles 1 (takeRequest p t 1 (appendPayload x flags d) s)
      (evalNext (admission p t (.append x false d.length) y)) := by
    have verdict := verdict_opens (sync := false) (len := d.length) h.2.2.2 isOpen unclaimed free now.1 above next lt
    have begun := settles_writing (k := 1) h.1 h.2.1 h.2.2.1 (length_appendPayload x flags short) parsed
    rwa [evalHead_admits h.2.2.1 verdict, ← isY] at begun
  rw [opens] at run
  obtain ⟨record, isRecord⟩ : ∃ record : Record, record = stampRecord y .data x.val p.val false d r := ⟨_, rfl⟩
  rw [← isRecord] at run
  have quiet : s.signals = [] := h.1.1.1.2
  have arrives : y.signals ++ y.arrivals = s.arrivals := by rw [isY, State.admitting, quiet]; rfl
  have mid : s.pool.opened = none ∨ MidWrite s := full.imp id fun ⟨_, _, _, mid⟩ => mid
  have counting : s.vom.counting = true := by simp [VolumeRecord.counting, h.2.2.2]
  have ends (l : Option Level) (above : 33 ≤ m)
      (is : evalLevel (y.starting (m - 1)) =
        { y.starting (m - 1) with vom := { s.vom with remaining := some (m - 1), level := l } })
      (low : ({ s with vom := { s.vom with remaining := some (m - 1), level := l } } : State).low = s.low) :
      exec (.append p t (appendPayload x flags d)) s = .next (driveInhibit { u with vom := { u.vom with level := l } }) := by
    have begun := run above
    rw [is] at begun
    have answer := reply_of_taken (k := 1) h.1 .done (.rsn (some r)) (countRecord x r (State.placing
      { y.starting (m - 1) with vom := { s.vom with remaining := some (m - 1), level := l } } record))
      (TagSlot.queued 1 (appendPayload x flags d)) (by rw [isY]; rfl) (by rw [← low, isY]; rfl) (by rw [isY]; rfl)
      TagState.noConfusion rfl
    rw [answer, evalNext_empty (by rw [isY]; exact h.2.2.1)] at begun
    refine (finish_arrivals (s := s) begun arrives (mid.imp id fun mid => by rw [isY]; exact mid)).trans ?_
    rw [eq, isRecord, isY]
    simp [State.starting, State.fullSealed, State.placing, placeRecord, countRecord, State.setStream, State.stream,
      State.admitting, stampRecord, OpenBlock.place, OpenBlock.fresh, footprint, quiet, State.marksFor, appendPayload]
  refine ⟨fun stays => ?_, fun atMargin left => ?_, fun above normal leaves few => ?_⟩
  · have level := ends s.vom.level (by omega) ?_ ?_
    · rw [eq] at level ⊢
      exact level
    · subst isY
      exact evalLevel_stays (s := (s.admitting p t 1 (appendPayload x flags d)).starting (m - 1)) rfl stays
    · rfl
  · refine ends (some .full) (by omega) ?_ ?_
    · subst isY
      exact evalLevel_fills (s := (s.admitting p t 1 (appendPayload x flags d)).starting (m - 1)) counting rfl (by omega)
        (by obtain low | full := left <;> simp [State.starting, State.fullSealed, State.admitting, *])
    · obtain low | full := left <;> simp [State.low, VolumeRecord.loaded, *]
  · obtain ⟨l, isL⟩ : ∃ l : Level, l = if m = 33 then .full else .low := ⟨_, rfl⟩
    obtain ⟨z, isZ⟩ : ∃ z : State, z = { y.starting (m - 1) with
      vom := { s.vom with remaining := some (m - 1), level := some l } } := ⟨_, rfl⟩
    have warns : evalLevel (y.starting (m - 1)) = postAll Port.all (.earlyWarning (m - 1) s.params.ewReserve) z := by
      subst isY
      have posts := evalLevel_warns (s := (s.admitting p t 1 (appendPayload x flags d)).starting (m - 1)) counting rfl normal
        (leaves.imp id fun _ => by omega)
      rw [posts, isZ, isL]
      have same : (if m - 1 ≤ 32 then some Level.full else some .low) = some (if m = 33 then Level.full else .low) := by
        by_cases at_ : m = 33
        · rw [if_pos at_, if_pos (by omega)]
        · rw [if_neg at_, if_neg (by omega)]
      rw [same]
      rfl
    have begun := run above
    rw [warns] at begun
    have notNormal : l ≠ .normal := by rw [isL]; split <;> exact Level.noConfusion
    obtain ⟨v, front, ran, only, bodies, transmit, idle⟩ := append_warned h few mid isY isZ notNormal begun
    obtain ⟨-, -, params, adu, pool, mpt, ape, vom, -, -, cursors, srt, -⟩ := only.keeps
    have vomZ : z.vom = { u.vom with level := if m = 33 then some .full else some .low } := by
      rw [isZ, eq, isL]
      by_cases at_ : m = 33 <;> simp [at_]
    have begins : ({ countRecord x r (z.placing record) with signals := [] } : State).pool = u.pool := by
      rw [isZ, eq, isRecord, isY]
      simp [State.starting, State.fullSealed, State.placing, placeRecord, countRecord, State.setStream,
        State.admitting, stampRecord, OpenBlock.place, OpenBlock.fresh, footprint]
    refine ⟨driveInhibit v, front, ran, vom.trans vomZ, bodies, transmit, idle, adu.trans ?_, pool.trans begins, srt.trans ?_,
      ape.trans ?_, mpt.trans ?_, cursors.trans ?_, params.trans ?_⟩
    · rw [isZ, eq, isY, isRecord]
      rfl
    · rw [isZ, eq, isY]
      rfl
    · rw [isZ, eq, isY]
      rfl
    · rw [isZ, eq, isY]
      rfl
    · rw [isZ, eq, isY]
      rfl
    · rw [isZ, eq, isY]
      rfl

/-! From insertion to READY (R98 to R104): mounts, the end search, and a rejection. -/

/-! ## Completions at whose end a notice is posted -/

theorem OnlyPorts.noneAsks {s t : State} (only : OnlyPorts s t) (none_ : NoneAsks s) : NoneAsks t := by
  obtain ⟨-, -, -, -, -, mpt, -⟩ := only.keeps
  rw [NoneAsks, mpt]
  exact none_

/-- An accepted completion whose client has touched ports only since a state in which nobody asks for the grant. -/
theorem finish_posted {s z w : State} {n : Byte} {kind : DriveOp → Bool} {o : Outstanding} (linked : s.mpt.link = some o)
    (number : o.number = n) (isKind : kind o.op = true) {head : Outstanding → Option Nat} {act : Outstanding → State → State}
    (acts : act o (endOperation (head o) s) = w) (only : OnlyPorts z w) (none_ : NoneAsks z) (quiet : z.signals = []) :
    finish (completion n kind head act s) = .next (driveInhibit w) := by
  obtain ⟨-, -, -, -, -, -, -, -, -, -, -, -, signals, -⟩ := only.keeps
  exact finish_completion linked number isKind acts (handOver_noneAsks (only.noneAsks none_)) (signals.trans quiet)

/-! ## Rejection (R100) -/

/-- A state whose volume has been rejected, its grant given up. -/
def State.rejected (s : State) (reason : RejectReason) : State :=
  { s with
    vom := { s.vom with state := .rejected, reason := some reason, appendPoint := none }
    mpt := { s.mpt with holder := none } }

theorem rejectVolume_eq {s : State} {reason : RejectReason} (held : s.mpt.holder = some .volume) (none_ : NoneAsks s) :
    rejectVolume reason s = postAll Port.all (.volumeRejected reason) (s.rejected reason) := by
  rw [rejectVolume, release_noneAsks (by exact held) (by exact none_)]
  rfl

/-- A completion by which the volume is rejected. -/
theorem finish_rejected {s u : State} {n : Byte} {kind : DriveOp → Bool} {o : Outstanding} {reason : RejectReason}
    (linked : s.mpt.link = some o) (number : o.number = n) (isKind : kind o.op = true) {head : Outstanding → Option Nat}
    {act : Outstanding → State → State} (acts : act o (endOperation (head o) s) = rejectVolume reason u)
    (held : u.mpt.holder = some .volume) (none_ : NoneAsks u) (quiet : u.signals = []) :
    ∃ t, finish (completion n kind head act s) = .next t ∧ t.vom = (u.rejected reason).vom ∧
      t.mpt = (u.rejected reason).mpt ∧ (∀ p, t.bodies p = posted (.volumeRejected reason) (u.bodies p)) ∧
      t.scratch = u.scratch ∧ t.adu = u.adu ∧ t.pool = u.pool ∧ t.ape = u.ape ∧ t.cursors = u.cursors ∧ t.srt = u.srt := by
  have only := postAll_onlyPorts (s := u.rejected reason) (ports := Port.all) (body := .volumeRejected reason)
  have bodies (p : Port) := bodies_postAll_all (s := u.rejected reason) (p := p) (body := .volumeRejected reason)
  have reject := acts.trans (rejectVolume_eq held none_)
  generalize postAll Port.all (.volumeRejected reason) (u.rejected reason) = w at only bodies reject
  obtain ⟨-, -, -, adu, pool, mpt, ape, vom, scratch, -, cursors, srt, -⟩ := only.keeps
  exact ⟨driveInhibit w, finish_posted linked number isKind reject only none_ quiet, vom, mpt, bodies, scratch, adu, pool, ape,
    cursors, srt⟩

/-! ## Mounting (R98, R99) -/

theorem volumeGranted_mounts {s : State} (held : s.mpt.holder = some .volume) (mounting : s.vom.state = .mounting)
    (idle : s.mpt.link = none) : volumeGranted s = { s with mpt := s.mpt.send .mount .volume false } := by
  rw [volumeGranted, if_pos held, mounting]
  exact issue_idle idle _ _

/-- Settles O45, by the command and the cartridge. -/
theorem mounts : Obligations.Mounts := by
  intro s
  refine ⟨fun ⟨running, quiet⟩ state free idle waits => ?_, fun ⟨running, quiet⟩ state => ?_,
    fun k cap ser quiet mounting linked held none_ => ⟨fun low high => ?_, fun m reason cases_ => ?_, ?_, ?_⟩⟩
  · have asked : cartridgeInserted s = raise (.granted .volume) (s.setVol .mounting).volumeHolds := by
      rw [cartridgeInserted, if_pos state, beginMount, request_free (by exact free) (by exact idle) (by exact waits)]
      rfl
    have begun := volumeGranted_mounts (s := (s.setVol .mounting).volumeHolds) rfl rfl idle
    change finish (byMode cartridgeInserted noteCartridge s) = _
    rw [byMode, running]
    dsimp only
    rw [asked]
    refine (finish_raise (g := .granted .volume) (by exact quiet) begun quiet).trans ?_
    simp [State.volumeHolds, State.setVol, MediumPort.send, Config.opLimit, waits]
  · change finish (byMode cartridgeInserted noteCartridge s) = _
    rw [byMode, running]
    dsimp only
    rw [cartridgeInserted, if_neg state]
    exact finish_quiet s quiet
  · have within : Config.minCapacity ≤ cap.toNat ∧ cap.toNat ≤ Config.maxCapacity := ⟨low, high⟩
    refine finish_completion linked rfl rfl ?_ (handOver_held (by exact held)) quiet
    refine (if_pos within).trans ?_
    exact issue_idle rfl _ _
  · obtain ⟨u, isU⟩ : ∃ u : State, u = { endOperation (some 0) s with
        vom := { s.vom with serial := some ser, capacity := some cap.toNat } } := ⟨_, rfl⟩
    have rejects : mountDone cap.toNat ser m (endOperation (some 0) s) = rejectVolume reason u := by
      rw [isU]
      obtain ⟨rfl, rfl⟩ | ⟨rfl, bounds, rfl⟩ := cases_
      · rfl
      · exact if_neg fun ⟨low, high⟩ => bounds.elim (Nat.not_lt.mpr low) (Nat.not_lt.mpr high)
    obtain ⟨t, run, vom, mpt, bodies, -, adu, pool, ape, cursors, srt⟩ := finish_rejected (s := s) (n := k)
      (kind := DriveOp.isMount) (head := fun _ => some 0) (act := mountAnswer true (mountDone cap.toNat ser m)) linked rfl rfl
      rejects (by rw [isU]; exact held) (by rw [isU]; exact none_) (by rw [isU]; exact quiet)
    subst isU
    exact ⟨t, run, vom, mpt, bodies, adu, pool, ape, cursors, srt⟩
  · obtain ⟨t, run, vom, mpt, bodies, -, adu, pool, ape, cursors, srt⟩ := finish_rejected (s := s) (n := k)
      (kind := DriveOp.isMount) (head := fun _ => none) (act := mountAnswer true (rejectVolume .mountError)) linked rfl rfl
      rfl held none_ quiet
    exact ⟨t, run, vom, mpt, bodies, adu, pool, ape, cursors, srt⟩
  · exact finish_completion linked rfl rfl (release_noneAsks (by exact held) (by exact none_)) (handOver_noneAsks (by exact none_))
      quiet

/-! The end search, the tail read, and the session that starts (R101 to R104). -/

/-! ## The session start (R104) -/

/-- The SESSION_START record of a load (R8). -/
def State.sessionRecord (s : State) (v : LoadValues) : Record :=
  stampRecord s .sessionStart 255 7 false (sessionPayload v.session (s.vom.capacity.getD 0) (s.vom.serial.getD 0)) v.nextRsn

/-- A state after the start of a session with these load values and this R, but for the notices. -/
def State.sessionStarted (s : State) (v : LoadValues) (r : Int) : State :=
  { s.handLoad v with
    vom := { (s.handLoad v).vom with state := .ready, level := some .normal, remaining := some r }
    adu := { s.adu with nextRsn := some (v.nextRsn + 1) }
    pool := { s.pool with
      free := s.pool.free - 1, nextBsn := some v.nextBsn
      opened := some ((OpenBlock.fresh s.params.sealDelay).place (s.sessionRecord v)) }
    mpt := { s.mpt with holder := none } }

section SessionStart

variable {s : State} {v : LoadValues} {c p : Nat}

/-- The SESSION_START record starts a block of its own; R is not kept yet (R104, R105). -/
theorem placeNew_session (seeking : s.vom.state = .seekingEnd) (closed : s.pool.opened = none) (free : 0 < s.pool.free) :
    placeNew (s.sessionRecord v) (s.handLoad v) = { s.handLoad v with
      adu := { s.adu with nextRsn := some (v.nextRsn + 1) }
      pool := { s.pool with
        free := s.pool.free - 1, nextBsn := some v.nextBsn
        opened := some ((OpenBlock.fresh s.params.sealDelay).place (s.sessionRecord v)) } } := by
  have needs : (s.handLoad v).needsBlock (footprint (s.sessionRecord v).payload.length) = true :=
    needsBlock_full (.inl closed)
  have idle : (s.handLoad v).vom.counting = false := by simp [State.handLoad, VolumeRecord.counting, seeking]
  have opens : openBlock (s.handLoad v) = { s.handLoad v with pool := { (s.handLoad v).pool with
      free := s.pool.free - 1, opened := some (OpenBlock.fresh s.params.sealDelay) } } := by
    rw [openBlock, if_pos ⟨by simp [State.handLoad, closed], by exact free⟩]
    exact recomputeR_idle (by exact idle)
  rw [placeNew, if_pos needs, sealBlock_none .full (by exact closed), opens]
  rfl

/-- The start of a session whose R leaves the level NORMAL (R104 to R106). -/
theorem startSession_spec {r : Int} (seeking : s.vom.state = .seekingEnd) (closed : s.pool.opened = none)
    (empty : s.pool.sealed = []) (free : 0 < s.pool.free) (held : s.mpt.holder = some .volume) (none_ : NoneAsks s)
    (capacity : s.vom.capacity = some c) (point : s.vom.appendPoint = some p) (isR : r = (c : Int) - p - 1) (above : 32 < r)
    (normal : (s.params.ewReserve : Int) < r) :
    OnlyPorts (s.sessionStarted v r) (startSession v s) ∧ ∀ q, (startSession v s).bodies q =
      posted (.volumeLoaded (s.vom.serial.getD 0) v.session c p v.nextRsn) (s.bodies q) := by
  have record : stampRecord (s.handLoad v) .sessionStart 255 7 false
      (sessionPayload v.session (s.vom.capacity.getD 0) (s.vom.serial.getD 0)) v.nextRsn = s.sessionRecord v := rfl
  obtain ⟨z, isZ⟩ : ∃ z : State, z = placeNew (s.sessionRecord v) (s.handLoad v) := ⟨_, rfl⟩
  have zEq := isZ.trans (placeNew_session seeking closed free)
  have only := postAll_onlyPorts (s := z) (ports := Port.all) (body := .volumeLoaded (s.vom.serial.getD 0) v.session c p v.nextRsn)
  have bodies (q : Port) := bodies_postAll_all (s := z) (p := q)
    (body := .volumeLoaded (s.vom.serial.getD 0) v.session c p v.nextRsn)
  have starts : startSession v s = release .volume (recomputeR
      { postAll Port.all (.volumeLoaded (s.vom.serial.getD 0) v.session c p v.nextRsn) z with
        vom := { (postAll Port.all (.volumeLoaded (s.vom.serial.getD 0) v.session c p v.nextRsn) z).vom with
          state := .ready, level := some .normal } }) := by
    have cap : s.vom.capacity.getD 0 = c := by rw [capacity]; rfl
    have at_ : z.vom.appendPoint.getD 0 = p := by
      rw [zEq]
      exact congrArg (fun o => Option.getD o 0) point
    rw [startSession]
    dsimp only
    rw [record, ← isZ, cap, at_]
  generalize postAll Port.all (.volumeLoaded (s.vom.serial.getD 0) v.session c p v.nextRsn) z = w at only bodies starts
  rw [OnlyPorts] at only
  obtain ⟨x, isX⟩ : ∃ x : State, x = { w with vom := { w.vom with state := .ready, level := some .normal } } := ⟨_, rfl⟩
  have vom : x.vom = { (s.handLoad v).vom with state := .ready, level := some .normal } := by rw [isX, only, zEq]
  have now : x.remainingNow = some r := by
    have pool : x.pool.sealed = [] ∧ x.pool.opened.toList.length = 1 := by
      rw [isX, only, zEq]
      exact ⟨empty, rfl⟩
    have cap : x.vom.capacity = some c := by rw [vom]; exact capacity
    have at_ : x.vom.appendPoint = some p := by rw [vom]; exact point
    rw [State.remainingNow, cap, at_, isR]
    dsimp only
    rw [pool.1, pool.2]
    simp
  have stays : LevelStays x r := ⟨above, fun _ => by rw [isX, only, zEq]; exact normal⟩
  have recomputed := recomputeR_stays (s := x) (by rw [vom]; rfl) now stays
  have released := release_noneAsks (s := { x with vom := { x.vom with remaining := some r } }) (c := .volume)
    (by rw [isX, only, zEq]; exact held) (by rw [isX, only, zEq]; exact none_)
  rw [starts, ← isX, recomputed, released]
  refine ⟨?_, fun q => ?_⟩
  · rw [OnlyPorts, vom, isX, only, zEq]
    rfl
  · exact (congrArg (fun y : State => y.bodies q) isX).trans ((bodies q).trans (by rw [zEq]; rfl))

end SessionStart

/-- A completion with which a session starts. -/
theorem finish_started {s u : State} {n : Byte} {kind : DriveOp → Bool} {o : Outstanding} {v : LoadValues} {c p : Nat} {r : Int}
    {ser : BitVec 64} (linked : s.mpt.link = some o) (number : o.number = n) (isKind : kind o.op = true)
    {head : Outstanding → Option Nat} {act : Outstanding → State → State}
    (acts : act o (endOperation (head o) s) = startSession v u) (quiet : u.signals = [])
    (seeking : u.vom.state = .seekingEnd) (closed : u.pool.opened = none)
    (empty : u.pool.sealed = []) (free : 0 < u.pool.free) (held : u.mpt.holder = some .volume) (none_ : NoneAsks u)
    (capacity : u.vom.capacity = some c) (point : u.vom.appendPoint = some p) (serial : u.vom.serial = some ser)
    (isR : r = (c : Int) - p - 1) (above : 32 < r) (normal : (u.params.ewReserve : Int) < r) :
    ∃ t, finish (completion n kind head act s) = .next (driveInhibit t) ∧ OnlyPorts (u.sessionStarted v r) t ∧
      ∀ q, t.bodies q = posted (.volumeLoaded ser v.session c p v.nextRsn) (u.bodies q) := by
  obtain ⟨only, bodies⟩ := startSession_spec (v := v) seeking closed empty free held none_ capacity point isR above normal
  rw [serial] at bodies
  exact ⟨_, finish_posted linked number isKind acts only none_ quiet, only, bodies⟩

/-! ## The end search (R101, R102) -/

/-- Settles O46: the session of a blank volume starts at once, another's tail is sought. -/
theorem endFound : Obligations.EndFound := by
  intro s k e c ser quiet seeking linked held none_ capacity serial within
  have inside : endWithin e.toNat s = true := by simpa [endWithin, capacity] using within
  have begins : exec (.endFound k e) s =
      finish (completion k DriveOp.isFindEnd (fun _ => some e.toNat) (fun _ => endSearched e.toNat) s) := by
    change execEndFound k e s = _
    rw [execEndFound, if_pos inside]
  rw [begins]
  refine ⟨fun some_ => ?_, fun zero closed empty free noR above normal => ?_⟩
  · refine finish_completion linked rfl rfl ?_ (handOver_held (by exact held)) quiet
    refine (if_neg (Nat.ne_of_gt some_)).trans ?_
    exact issue_idle rfl _ _
  · obtain ⟨u, isU⟩ : ∃ u : State, u = { endOperation (some 0) s with vom := { s.vom with appendPoint := some 0 } } := ⟨_, rfl⟩
    rw [zero]
    obtain ⟨t, run, only, bodies⟩ := finish_started (u := u) (v := .blank) (c := c) (p := 0) (r := (c : Int) - 1) (ser := ser)
      (n := k) (kind := DriveOp.isFindEnd) (head := fun _ => some 0) (act := fun _ => endSearched 0)
      linked rfl rfl (by rw [isU]; rfl) (by rw [isU]; exact quiet) (by rw [isU]; exact seeking) (by rw [isU]; exact closed)
      (by rw [isU]; exact empty) (by rw [isU]; exact free) (by rw [isU]; exact held) (by rw [isU]; exact none_)
      (by rw [isU]; exact capacity) (by rw [isU]) (by rw [isU]; exact serial) (by simp) (by omega)
      (by rw [isU]; change (s.params.ewReserve : Int) < _; omega)
    obtain ⟨-, -, params, adu, pool, mpt, ape, vom, -, -, cursors, srt, -⟩ := only.keeps
    subst isU
    refine ⟨driveInhibit t, run, vom, adu, pool.trans ?_, mpt, srt, bodies, ape, cursors, params⟩
    simp [State.sessionStarted, State.sessionRecord, OpenBlock.place, OpenBlock.fresh, stampRecord, sessionPayload,
      footprint, endOperation, LoadValues.blank, capacity, serial, empty]

/-! ## The tail read (R102, R103) -/

/-- The class of a slot by the header and the bytes of its read. -/
abbrev ReadsAs (cls : SlotClass) (good : Option SlotHeader) : Prop :=
  (good = none ∧ ∀ h, cls ≠ .good h) ∨ ∃ h, good = some h ∧ cls = .good h

/-- A read ends as one class of slot, whatever completion says it (R7, R65). -/
theorem exec_readEnds {k : Byte} {c : Instr} {good : Option SlotHeader} {bytes : Option (List Byte)}
    (ends : ReadEnds k c good bytes) (s : State) : ∃ cls, ReadsAs cls good ∧
      exec c s = finish (completion k DriveOp.isRead (fun o => some (o.op.slot + 1)) (readAnswer cls bytes) s) := by
  obtain ⟨rfl, rfl, rfl | rfl⟩ | ⟨b, rfl, rfl, class_⟩ := ends
  · exact ⟨.blank, .inl ⟨rfl, fun h => SlotClass.noConfusion⟩, rfl⟩
  · exact ⟨.bad, .inl ⟨rfl, fun h => SlotClass.noConfusion⟩, rfl⟩
  · exact ⟨classify b, class_, rfl⟩

theorem update_seen {cls : SlotClass} {good : Option SlotHeader} (as_ : ReadsAs cls good) (x : Scratch) (n : Nat)
    (bytes : Option (List Byte)) : Scratch.update { x with image := bytes.getD x.image } n cls = x.seen n good bytes := by
  obtain ⟨rfl, other⟩ | ⟨h, rfl, rfl⟩ := as_
  · cases cls with
    | good h => exact absurd rfl (other h)
    | blank | bad => rfl
  · rw [Scratch.update, Scratch.seen]
    cases best : x.best with
    | none => simp
    | some c =>
      by_cases below : h.bsn < c.bsn
      · simp [below, Nat.not_le.mpr below]
      · simp [below, Nat.not_lt.mp below]

/-- The end of a tail read: the next slot of the window, or the decision (R102, R103). -/
theorem tailRead_eq {s : State} {cls : SlotClass} {good : Option SlotHeader} {pt : Nat} (as_ : ReadsAs cls good)
    (bytes : Option (List Byte)) (seeking : s.vom.state = .seekingEnd) (point : s.vom.appendPoint = some pt) (n : Nat) :
    tailRead n cls bytes s =
      if n + 1 < pt then issue (.read (n + 1)) .volume
        { s with scratch := { s.scratch.seen n good bytes with slot := some (n + 1) } }
      else decideLoad { s with scratch := s.scratch.seen n good bytes } := by
  rw [tailRead, if_pos seeking, point, ← update_seen as_]
  rfl

theorem decideLoad_rejects {u : State} {reason : RejectReason}
    (cases_ : (u.scratch.best = none ∧ reason = .tailUnreadable) ∨
      (∃ best, u.scratch.best = some best ∧
        ((65535 ≤ u.scratch.highest.getD 0 ∧ reason = .sessionLimit) ∨
          (u.scratch.highest.getD 0 < 65535 ∧ best.firstRsn + best.count - 1 = 281474976710655 ∧ reason = .rsnLimit)))) :
    decideLoad u = rejectVolume reason u := by
  rw [decideLoad]
  obtain ⟨none_, rfl⟩ | ⟨best, candidate, ⟨used, rfl⟩ | ⟨left, last, rfl⟩⟩ := cases_
  · rw [none_]
  · rw [candidate]
    exact if_pos used
  · rw [candidate]
    exact (if_neg (Nat.not_le.mpr left)).trans (if_pos last)

theorem decideLoad_starts {u : State} {best : Candidate} {hi : Nat} (candidate : u.scratch.best = some best)
    (highest : u.scratch.highest = some hi) (below : hi < 65535)
    (notLast : best.firstRsn + best.count - 1 ≠ 281474976710655) :
    decideLoad u = startSession (.ofTail best hi) u := by
  rw [decideLoad, candidate, highest]
  exact (if_neg (Nat.not_le.mpr below)).trans (if_neg notLast)

/-- Settles O48: the next slot of the window, or one of the rejections. -/
theorem tailReads : Obligations.TailReads := by
  intro s k n pt c good bytes x quiet seeking linked held none_ point ends isX
  obtain ⟨cls, as_, runs⟩ := exec_readEnds ends s
  have reads := tailRead_eq (cls := cls) (s := endOperation (some (n + 1)) s) as_ bytes seeking point n
  have scratches : (endOperation (some (n + 1)) s).scratch.seen n good bytes = x := isX.symm
  rw [scratches] at reads
  rw [runs]
  refine ⟨fun more => ?_, fun last reason cases_ => ?_⟩
  · rw [if_pos more] at reads
    refine finish_completion linked rfl rfl ?_ (handOver_held (by exact held)) quiet
    refine Eq.trans ?_ (reads.trans (issue_idle rfl _ _))
    rfl
  · rw [if_neg (Nat.not_lt.mpr last)] at reads
    obtain ⟨u, isU⟩ : ∃ u : State, u = { endOperation (some (n + 1)) s with scratch := x } := ⟨_, rfl⟩
    have scratch : u.scratch = x := by rw [isU]
    rw [← isU] at reads
    obtain ⟨t, run, vom, mpt, bodies, after, adu, pool, ape, cursors, srt⟩ := finish_rejected (s := s) (u := u) (n := k)
      (kind := DriveOp.isRead) (head := fun o => some (o.op.slot + 1)) (act := readAnswer cls bytes) linked rfl rfl
      (reads.trans (decideLoad_rejects (scratch.symm ▸ cases_))) (by rw [isU]; exact held) (by rw [isU]; exact none_)
      (by rw [isU]; exact quiet)
    subst isU
    exact ⟨t, run, vom, after, mpt, bodies, adu, pool, ape, cursors, srt⟩

/-- Settles O49: the decision at the window's end starts the session. -/
theorem sessionAfterTail : Obligations.SessionAfterTail := by
  intro s k n pt cap c good bytes ser best hi quiet seeking linked held none_ point last capacity serial ends candidate highest
    below notLast closed empty free noR stays
  obtain ⟨cls, as_, runs⟩ := exec_readEnds ends s
  obtain ⟨u, isU⟩ : ∃ u : State, u = { endOperation (some (n + 1)) s with scratch := s.scratch.seen n good bytes } := ⟨_, rfl⟩
  have reads := tailRead_eq (cls := cls) (s := endOperation (some (n + 1)) s) as_ bytes seeking point n
  rw [if_neg (Nat.not_lt.mpr last)] at reads
  have scratch : u.scratch = s.scratch.seen n good bytes := by rw [isU]
  have starts : decideLoad u = startSession (.ofTail best hi) u :=
    decideLoad_starts (by rw [scratch]; exact candidate) (by rw [scratch]; exact highest) below notLast
  obtain ⟨t, run, only, bodies⟩ := finish_started (s := s) (u := u) (v := .ofTail best hi) (c := cap) (p := pt)
    (r := (cap : Int) - pt - 1) (ser := ser) (n := k) (kind := DriveOp.isRead) (head := fun o => some (o.op.slot + 1))
    (act := readAnswer cls bytes) linked rfl rfl (reads.trans ((congrArg decideLoad isU.symm).trans starts))
    (by rw [isU]; exact quiet) (by rw [isU]; exact seeking) (by rw [isU]; exact closed)
    (by rw [isU]; exact empty) (by rw [isU]; exact free) (by rw [isU]; exact held) (by rw [isU]; exact none_)
    (by rw [isU]; exact capacity) (by rw [isU]; exact point) (by rw [isU]; exact serial) rfl stays.1
    (by rw [isU]; exact stays.2 rfl)
  obtain ⟨-, -, -, adu, pool, mpt, -, vom, -, -, -, srt, -⟩ := only.keeps
  rw [runs]
  subst isU
  refine ⟨driveInhibit t, run, vom, adu, ?_, ?_, ?_, ?_, srt, bodies⟩
  · exact congrArg Pool.nextBsn pool
  · exact congrArg Pool.free pool
  · exact congrArg (fun q : Pool => q.opened.map fun o => (o.firstRsn, o.count)) pool
  · exact congrArg MediumPort.holder mpt

/-! The end of a volume by its own request: UNLOAD (R108 to R110) and EJECTED (R111). -/

/-! ## UNLOAD (R108 to R110) -/

section Unload

variable {s : State} {p : Port} {t : Tag}

theorem holdsOther_iff (locks : PortSet) (p : Port) : locks.holdsOther p = true ↔ ∃ q : Port, q ≠ p ∧ locks[q] = true := by
  simp [PortSet.holdsOther, mem_portAll]

/-- The refusals of an UNLOAD, in the order of R108. -/
theorem unloadRefusal_eq (s : State) (p : Port) :
    s.unloadRefusal p =
      if s.vom.state = .none ∨ (s.vom.state = .faulted ∧ s.vom.cause = some .drive) then some Status.notReady
      else if s.vom.state = .mounting ∨ s.vom.state = .seekingEnd ∨ s.vom.state = .draining ∨
        s.vom.state = .ejecting then some .busy
      else if ∃ q, q ≠ p ∧ s.srt.volume = some q then some .conflict
      else if ∃ q : Port, q ≠ p ∧ s.srt.locks[q] = true then some .locked else none := by
  simp only [← heldByOther_iff, ← holdsOther_iff]
  unfold State.unloadRefusal
  cases s.vom.state <;> simp

/-- A request for the grant that another client, or an operation, keeps from the Volume Manager (R72, R110). -/
theorem beginEject_busy (other : s.mpt.holder ≠ some .volume) (busy : s.mpt.holder ≠ none ∨ s.mpt.link ≠ none) :
    beginEject s = { s with vom := { s.vom with state := .ejecting }, mpt := { s.mpt with volumeWaits := true } } := by
  have notFree : ¬(s.mpt.holder = none ∧ s.mpt.link = none) := fun ⟨free, idle⟩ => busy.elim (· free) (· idle)
  rw [beginEject, request]
  by_cases waits : s.mpt.volumeWaits = true
  · rw [if_pos (.inr waits), ← waits]
  · have asks : ¬(s.mpt.holder = some .volume ∨ s.mpt.waits .volume = true) := not_or.mpr ⟨other, waits⟩
    rw [if_neg (by exact asks), if_neg (by exact notFree)]
    rfl

/-- The slot of a request that is pending. -/
def TagSlot.pending (k : Byte) (b : List Byte) : TagSlot := { TagSlot.dispatch k b with state := .pending }

/-- A state in which an UNLOAD has been accepted, before what it gives rise to. -/
def State.unloading (s : State) (p : Port) (t : Tag) : State :=
  { s with
    ports := s.taken p t (TagSlot.pending 10 [])
    srt := s.srt.unlock p
    vom := { s.vom with unload := some { port := p, tag := t, faultFlag := false, owed := true } } }

theorem unload_accepted (none_ : s.unloadRefusal p = none) :
    unload p t (s.receiving p t 10 []) =
      if s.vom.state = .ready then beginDrain (s.unloading p t) else beginEject (s.unloading p t) := by
  obtain ⟨u, isU⟩ : ∃ u : State, u = { s.receiving p t 10 [] with
    srt := s.srt.unlock p
    vom := { s.vom with unload := some { port := p, tag := t, faultFlag := false, owed := true } } } := ⟨_, rfl⟩
  have taken : u.ports = s.taken p t (TagSlot.dispatch 10 []) := by rw [isU]; rfl
  have tagged : u.setTagState p t .pending = s.unloading p t := by
    have ports := taken_setSlot s p t (TagSlot.dispatch 10 []) (TagSlot.pending 10 []) u taken
    have only : u.setSlot p t (TagSlot.pending 10 []) = { u with ports := (u.setSlot p t (TagSlot.pending 10 [])).ports } := rfl
    rw [State.setTagState, taken_slot s p t _ u taken]
    change u.setSlot p t (TagSlot.pending 10 []) = _
    rw [only, ports, isU]
    rfl
  rw [unload, show (s.receiving p t 10 []).unloadRefusal p = none from none_]
  subst isU
  exact congrArg (fun w : State => if w.vom.state = .ready then beginDrain w else beginEject w) tagged

/-- An empty queue is refused without a reply (R36). -/
theorem refuseQueue_empty (empty : s.adu.queue = []) : refuseQueue s = s := by
  have same : s.setQueue [] = s := by rw [← empty]; rfl
  rw [refuseQueue, empty, refuseAll, same]

/-- The drain's beginning with an empty admission queue (R36, R109). -/
theorem beginDrain_empty (empty : s.adu.queue = []) :
    beginDrain s = raise .drainCheck (raise .startCheck (sealBlock .drain (s.setVol .draining))) := by
  rw [beginDrain, refuseQueue_empty (by exact empty)]

/-- An IDLE engine with nothing sealed starts no burst (R77). -/
theorem engineStart_unwanted (idle : s.ape.state = .idle) (empty : s.pool.sealed = []) : engineStart s = s := by
  have unwanted : s.startWanted = false := by simp [State.startWanted, empty]
  rw [engineStart, idle]
  exact if_neg fun ⟨_, _, wanted⟩ => by simp [unwanted] at wanted

/-- Nothing is staged: the drain that begins ends at once, and the volume is EJECTING (R109, R110). -/
theorem settles_drainedAtOnce {k : Nat} {v : State} (empty : s.adu.queue = []) (opened : s.pool.opened = none)
    (idle : s.ape.state = .idle) (bare : s.writtenBlocks = []) (quiet : s.signals = [])
    (ejects : Settles k (beginEject (s.setVol .draining)) v) : Settles (k + 2) (beginDrain s) v := by
  obtain ⟨unverified, inWrite, sealed_⟩ : s.ape.unverified = [] ∧ s.ape.inWrite = none ∧ s.pool.sealed = [] := by
    simpa [State.writtenBlocks, and_assoc] using bare
  have started := Settles.report (g := .startCheck) (rest := [.drainCheck]) (u := s.setVol .draining)
    (s := raise .drainCheck (raise .startCheck (s.setVol .draining))) (by simp [raise, State.setVol, quiet])
    (engineStart_unwanted (s := { s.setVol .draining with signals := [] }) idle sealed_ |>.trans (by rw [← quiet]; rfl))
  have checked := Settles.raised (g := .drainCheck) (s := s.setVol .draining) quiet
    ((drainCheck_done (s := s.setVol .draining) idle ⟨sealed_, inWrite, unverified⟩).trans (if_pos ⟨rfl, opened⟩))
  rw [beginDrain_empty empty, sealBlock_none .drain (by exact opened)]
  exact (started.trans checked).trans ejects

/-- The drain's first checks find the engine in the middle of a write (R77, R110). -/
theorem finish_drainBegun {u : State} (quiet : u.signals = []) (mid : MidWrite u) :
    finish (raise .drainCheck (raise .startCheck (raise .arrival u))) = .next (driveInhibit u) := by
  have waits : drainCheck u = u := by
    obtain ⟨running, -⟩ := mid
    simp [drainCheck, running]
  have same : { raise .drainCheck (raise .startCheck (raise .arrival u)) with signals := [] } = u := by rw [← quiet]; rfl
  have run := settles_inert (s := raise .drainCheck (raise .startCheck (raise .arrival u))) fun g mem => by
    rw [same]
    obtain rfl | rfl | rfl : g = .arrival ∨ g = .startCheck ∨ g = .drainCheck := by simpa [raise, quiet] using mem
    · exact engineStart_midWrite mid
    · exact engineStart_midWrite mid
    · exact waits
  rw [same] at run
  exact finish_of_settles run quiet (by simp [raise, quiet])

end Unload

/-- Settles O50: the refusals in order, then the eject at once or the drain. -/
theorem unloadRequest : Obligations.UnloadRequest := by
  intro s p t h gate
  have quiet : s.signals = [] := h.1.1.2
  have served := takeRequest_served (kind := 10) (payload := []) h (by simp) (r := .unload) rfl fun _ => gate
  have accepted (none_ : s.unloadRefusal p = none) : exec (.unload p t []) s = finish
      (if s.vom.state = .ready then beginDrain (s.unloading p t) else beginEject (s.unloading p t)) := by
    rw [← unload_accepted none_]
    exact congrArg finish served
  have unclaimed (state : ¬(s.vom.state = .none ∨ (s.vom.state = .faulted ∧ s.vom.cause = some .drive)))
      (idle : ¬(s.vom.state = .mounting ∨ s.vom.state = .seekingEnd ∨ s.vom.state = .draining ∨ s.vom.state = .ejecting))
      (free : ∀ q, q ≠ p → s.srt.volume ≠ some q ∧ s.srt.locks[q] = false) : s.unloadRefusal p = none := by
    rw [unloadRefusal_eq, if_neg state, if_neg idle, if_neg fun ⟨q, other, held⟩ => (free q other).1 held,
      if_neg fun ⟨q, other, locked⟩ => by simp [(free q other).2] at locked]
  refine ⟨fun st refused => ?_, fun cases_ free v eq => ⟨fun unheld idle waits => ?_, fun other busy => ?_⟩,
    fun o m ready free empty opened now mid => ?_⟩
  · rw [← unloadRefusal_eq] at refused
    refine finish_takeRequest_replied (k := 10) h (by simp) (r := .unload) rfl (fun _ => gate) st .empty (s.receiving p t 10 [])
      ?_ rfl rfl rfl quiet
    change Machine.unload p t (s.receiving p t 10 []) = _
    rw [Machine.unload, show (s.receiving p t 10 []).unloadRefusal p = some st from refused.symm]
  · have none_ := unclaimed (by obtain st | ⟨st, cause⟩ | ⟨st, -⟩ := cases_ <;> simp [*])
      (by obtain st | ⟨st, -⟩ | ⟨st, -⟩ := cases_ <;> simp [st]) free
    rw [accepted none_]
    subst eq
    obtain st | ⟨st, -⟩ | ⟨st, empty, idle_, opened, bare⟩ := cases_
    · rw [if_neg (by simp [st])]
      exact finish_of_settles (settles_beginEject (s := s.unloading p t) unheld idle waits quiet) quiet
    · rw [if_neg (by simp [st])]
      exact finish_of_settles (settles_beginEject (s := s.unloading p t) unheld idle waits quiet) quiet
    · rw [if_pos (by exact st)]
      exact finish_of_settles (settles_drainedAtOnce (s := s.unloading p t) empty opened idle_ bare quiet
        (settles_beginEject unheld idle waits quiet)) quiet
  · have none_ := unclaimed (by obtain st | ⟨st, cause⟩ | ⟨st, -⟩ := cases_ <;> simp [*])
      (by obtain st | ⟨st, -⟩ | ⟨st, -⟩ := cases_ <;> simp [st]) free
    rw [accepted none_]
    subst eq
    obtain st | ⟨st, -⟩ | ⟨st, empty, idle_, opened, bare⟩ := cases_
    · rw [if_neg (by simp [st]), beginEject_busy (s := s.unloading p t) other busy]
      exact finish_quiet _ quiet
    · rw [if_neg (by simp [st]), beginEject_busy (s := s.unloading p t) other busy]
      exact finish_quiet _ quiet
    · rw [if_pos (by exact st)]
      exact finish_of_settles (settles_drainedAtOnce (s := s.unloading p t) empty opened idle_ bare quiet
        (by rw [beginEject_busy (s := (s.unloading p t).setVol .draining) other busy]; exact .refl _)) quiet
  · have none_ := unclaimed (by simp [ready]) (by simp [ready]) free
    have drains : sealBlock .drain ((s.unloading p t).setVol .draining) =
        raise .arrival (((s.unloading p t).setVol .draining).sealedWith .drain o) :=
      sealBlock_open .drain opened (now.1.trans now.2.symm)
    rw [accepted none_, if_pos ready, beginDrain_empty (by exact empty), drains]
    exact finish_drainBegun (u := ((s.unloading p t).setVol .draining).sealedWith .drain o) quiet mid

/-! The volume that is gone: EJECTED (R111) and DRIVE_FAULT (R71, R116). -/

/-! ## The volume lost with no cursor open (R153) -/

/-- No cursor is lost where none is open. -/
theorem failCursors_shut {s : State} (shut : ∀ p, (s.cursor p).state = .closed ∨ (s.cursor p).state = .failed) :
    failCursors s = s :=
  List.foldl_fixed' (fun p => if_pos (shut p)) _

theorem volumeLost_shut {s : State} (shut : ∀ p, (s.cursor p).state = .closed ∨ (s.cursor p).state = .failed) :
    volumeLost s = clearSession s := by rw [volumeLost, failCursors_shut shut]

theorem OnlyPorts.withVom {s t : State} (only : OnlyPorts s t) (v : VolumeRecord) :
    OnlyPorts { s with vom := v } { t with vom := v } := by
  rw [OnlyPorts] at *
  rw [only]

/-! ## EJECTED (R111) -/

/-- A state whose volume is being given up, its grant gone. -/
def State.ejectedVolume (s : State) : State :=
  { clearSession (s.setVol .none) with mpt := { s.mpt with holder := none } }

theorem finishEject_eq {s : State} {p : Port} {t : Tag} (held : s.mpt.holder = some .volume) (none_ : NoneAsks s)
    (shut : ∀ q, (s.cursor q).state = .closed ∨ (s.cursor q).state = .failed)
    (pending : s.vom.unload = some { port := p, tag := t, faultFlag := false, owed := true }) :
    finishEject s = { postAll (Port.all.filter fun q => some p ≠ some q) (.volumeGone .unloaded s.vom.highestRsn 0)
      (reply p t .done (.rsn s.vom.highestRsn) s.ejectedVolume) with vom := VolumeRecord.unset .none } := by
  have lost : release .volume (volumeLost (s.setVol .none)) = s.ejectedVolume := by
    rw [volumeLost_shut (by exact shut), release_noneAsks (by exact held) (by exact none_)]
    rfl
  have owed : s.ejectedVolume.vom.unload = some { port := p, tag := t, faultFlag := false, owed := true } := pending
  have port : s.vom.owedTo = some p := by rw [VolumeRecord.owedTo, pending]; rfl
  have answered : answerUnload .done (.rsn s.vom.highestRsn) s.ejectedVolume =
      reply p t .done (.rsn s.vom.highestRsn) s.ejectedVolume := by rw [answerUnload, owed]; rfl
  have unmarked : ¬(s.vom.unload.any fun u => u.faultFlag) = true := by simp [pending]
  rw [finishEject]
  dsimp only
  rw [lost, if_neg unmarked, port, answered]

/-- Settles O51: the reply goes out at the requester's port, the notices at the others. -/
theorem Settled.ejected : Obligations.Ejected := by
  intro s k p t quiet ejecting linked held none_ shut pending can
  obtain ⟨x, isX⟩ : ∃ x : State, x = (endOperation none s).ejectedVolume := ⟨_, rfl⟩
  have acts := finishEject_eq (s := endOperation none s) (by exact held) (by exact none_) shut pending
  rw [← isX] at acts
  have canX : CanReply x p t := by rw [isX]; exact can
  obtain ⟨y, isY⟩ : ∃ y : State, y = reply p t .done (.rsn s.vom.highestRsn) x := ⟨_, rfl⟩
  have replied : OnlyPorts x y := isY ▸ reply_onlyPorts p t _ _ x
  have ntu : y.ntu = x.ntu := isY ▸ reply_ntu canX
  have port : y.port p = { x.port p with
      tags := (x.port p).tags.set t TagSlot.idle
      transmit := (x.port p).transmit ++ [x.replyTo p .done (.rsn s.vom.highestRsn) x.low t] } := isY ▸ reply_port canX
  obtain ⟨z, isZ⟩ : ∃ z : State, z = postAll (Port.all.filter fun q => some p ≠ some q)
    (.volumeGone .unloaded s.vom.highestRsn 0) y := ⟨_, rfl⟩
  have posted_ : OnlyPorts y z := isZ ▸ postAll_onlyPorts
  obtain ⟨same, still⟩ : z.port p = y.port p ∧ z.notices p = y.notices p := isZ ▸ postAll_other (by simp)
  have told (q : Port) (other : q ≠ p) : z.bodies q = posted (.volumeGone .unloaded s.vom.highestRsn 0) (y.bodies q) :=
    isZ ▸ bodies_postAll (nodup_portAll.filter _) (by simp [mem_portAll, Ne.symm other])
  have run : finishEject (endOperation none s) = { z with vom := VolumeRecord.unset .none } := by
    rw [isZ, isY]
    exact acts
  have only := (replied.trans posted_).withVom (VolumeRecord.unset .none)
  obtain ⟨-, -, params, adu, pool, mpt, ape, vom, -, -, cursors, srt, -⟩ := only.keeps
  have tags : z.port p = { s.port p with
      tags := (s.port p).tags.set t TagSlot.idle
      transmit := (s.port p).transmit ++ [x.replyTo p .done (.rsn s.vom.highestRsn) x.low t] } := by
    rw [same, port, isX]
    rfl
  have notices : x.ntu = s.ntu := by rw [isX]; rfl
  have queue (q : Port) : y.bodies q = s.bodies q := (bodies_of_ntu ntu).trans (bodies_of_ntu notices)
  refine ⟨driveInhibit { z with vom := VolumeRecord.unset .none },
    finish_posted (kind := DriveOp.isEject) (head := fun _ => none) (act := fun _ => finishEject) linked rfl rfl run only
      (by rw [isX]; exact none_) (by rw [isX]; exact quiet), vom, ?_⟩
  rw [isX] at params adu pool mpt ape cursors srt
  refine ⟨mpt, srt, adu, pool, congrArg HostPort.tags tags, ⟨_, (congrArg HostPort.transmit tags).trans (by rw [isX]; rfl)⟩, ?_,
    fun q other => ?_, ape, cursors, params⟩
  · exact still.trans (by rw [State.notices, State.notices, ntu, notices])
  · exact (told q other).trans (congrArg _ (queue q))

/-! A drive fault where nothing waits for an answer (R71, R94, R116). -/

/-! ## The staging dropped with nobody waiting (R56, R94) -/

theorem mem_insertBlock {b x : Block} {bs : List Block} (mem : x ∈ insertBlock b bs) : x = b ∨ x ∈ bs := by
  induction bs with
  | nil => exact List.mem_cons.mp mem
  | cons y bs ih =>
    rw [insertBlock] at mem
    split at mem
    next => exact List.mem_cons.mp mem
    next =>
      obtain rfl | later := List.mem_cons.mp mem
      · exact .inr List.mem_cons_self
      · exact (ih later).imp id (List.mem_cons_of_mem y)

theorem mem_sortBlocks {x : Block} {bs : List Block} (mem : x ∈ sortBlocks bs) : x ∈ bs := by
  induction bs with
  | nil => exact mem
  | cons b bs ih =>
    obtain rfl | later := mem_insertBlock mem
    · exact List.mem_cons_self
    · exact List.mem_cons_of_mem b (ih later)

section Fault

variable {s : State}

/-- A state whose staging is gone and counted, but for its buffers. -/
def State.unstaged (s : State) : State :=
  { s with
    pool := { s.pool with opened := none, sealed := [] }
    vom := { s.vom with lost := some (s.vom.lost.getD 0 + s.stagedRecords) }
    ape := Engine.reset }

theorem dropStaging_silent (silent : ∀ b ∈ s.writtenBlocks, b.waiters = []) (other : s.mpt.holder ≠ some .engine)
    (waits : s.mpt.engineWaits = false) : dropStaging s = freeBuffers s.staged s.unstaged := by
  have none_ : (sortBlocks s.writtenBlocks).flatMap (fun b => b.waiters) = [] :=
    List.flatMap_eq_nil_iff.mpr fun b mem => silent b (mem_sortBlocks mem)
  rw [dropStaging]
  dsimp only
  rw [none_, lostWaiters, teardownEngine_idle (by exact other) (by exact waits)]
  rfl

/-- What a drive fault leaves, but for the notices and the wake-up of the buffers it frees. -/
def State.faulted (s : State) : State :=
  { s with
    vom := { VolumeRecord.unset .faulted with
      cause := some .drive, reason := s.vom.reason, serial := s.vom.serial
      lost := if s.vom.counting then some (s.vom.lost.getD 0 + s.stagedRecords) else s.vom.lost }
    srt := Claims.reset
    adu := { s.adu with nextRsn := none }
    pool := if s.vom.counting then
        { free := s.pool.free + s.staged, opened := none, sealed := [], nextBsn := none }
      else { s.pool with nextBsn := none }
    ape := if s.vom.counting then { state := .idle, unverified := [], inWrite := none, yield := false } else s.ape
    signals := if s.vom.counting && s.staged != 0 then s.signals ++ [.wake] else s.signals }

theorem answerUnload_none {st : Status} {body : ReplyBody} (none_ : s.vom.unload = none) : answerUnload st body s = s := by
  rw [answerUnload, none_]

/-- A state whose volume has just been FAULTED with cause DRIVE. -/
def State.atFault (s : State) : State := { s with vom := { s.vom with state := .faulted, cause := some .drive } }

/-- A state whose volume record is that of a drive fault. -/
def State.withFault (s : State) : State := { s with vom := s.vom.driveFaulted }

/-- The postings of a drive fault, the last but the reply to an UNLOAD. -/
def State.goneByDrive (s : State) : State :=
  (answerUnload .writeFailed .empty (postAll Port.all (.volumeGone .drive s.vom.highestRsn 0) s)).withFault

theorem driveFaulted_eq (s : State) : driveFaulted s =
    (if s.vom.counting = true then
      postAll Port.all (.writeFailed .drive s.stagedRecords)
        (volumeLost (if s.vom.counting = true then dropStaging (refuseQueue s.atFault) else s.atFault))
    else volumeLost (if s.vom.counting = true then dropStaging (refuseQueue s.atFault) else s.atFault)).goneByDrive := rfl

theorem driveFaulted_empty (rest : s.vom.counting = false)
    (shut : ∀ p, (s.cursor p).state = .closed ∨ (s.cursor p).state = .failed) :
    driveFaulted s = (clearSession s.atFault).goneByDrive := by
  have lost : volumeLost s.atFault = clearSession s.atFault := volumeLost_shut shut
  rw [driveFaulted_eq, rest, if_neg Bool.false_ne_true, if_neg Bool.false_ne_true, lost]

theorem driveFaulted_staged (counts : s.vom.counting = true) (empty : s.adu.queue = [])
    (silent : ∀ b ∈ s.writtenBlocks, b.waiters = []) (other : s.mpt.holder ≠ some .engine) (waits : s.mpt.engineWaits = false)
    (shut : ∀ p, (s.cursor p).state = .closed ∨ (s.cursor p).state = .failed) :
    driveFaulted s = (postAll Port.all (.writeFailed .drive s.stagedRecords)
      (clearSession (freeBuffers s.staged s.atFault.unstaged))).goneByDrive := by
  have dropped : dropStaging (refuseQueue s.atFault) = freeBuffers s.staged s.atFault.unstaged := by
    rw [refuseQueue_empty (by exact empty)]
    exact dropStaging_silent silent other waits
  have cursor (p : Port) : (freeBuffers s.staged s.atFault.unstaged).cursor p = s.cursor p := by
    rw [freeBuffers]
    split <;> rfl
  have lost : volumeLost (freeBuffers s.staged s.atFault.unstaged) = clearSession (freeBuffers s.staged s.atFault.unstaged) :=
    volumeLost_shut fun p => by rw [cursor]; exact shut p
  rw [driveFaulted_eq, counts, if_pos rfl, if_pos rfl, dropped, lost]

theorem OnlyPorts.goneByDrive {y w : State} (only : OnlyPorts y w) (none_ : y.vom.unload = none) :
    OnlyPorts y.withFault w.goneByDrive ∧
      ∀ p, w.goneByDrive.bodies p = posted (.volumeGone .drive y.vom.highestRsn 0) (w.bodies p) := by
  have all := only.trans (postAll_onlyPorts (ports := Port.all) (body := .volumeGone .drive w.vom.highestRsn 0))
  have bodies (p : Port) := bodies_postAll_all (s := w) (p := p) (body := .volumeGone .drive w.vom.highestRsn 0)
  obtain ⟨-, -, -, -, -, -, -, kept, -⟩ := only.keeps
  rw [State.goneByDrive]
  rw [kept] at all bodies ⊢
  generalize postAll Port.all (.volumeGone .drive y.vom.highestRsn 0) w = z at all bodies
  obtain ⟨-, -, -, -, -, -, -, vom, -⟩ := all.keeps
  rw [answerUnload_none (by rw [vom]; exact none_), State.withFault, State.withFault, vom]
  exact ⟨all.withVom _, bodies⟩

theorem freeBuffers_eq (k : Nat) (s : State) : freeBuffers k s =
    { s with pool := { s.pool with free := s.pool.free + k }, signals := if k != 0 then s.signals ++ [.wake] else s.signals } := by
  rw [freeBuffers]
  by_cases none_ : k = 0
  · subst none_
    rfl
  · rw [if_neg none_, if_pos (by simpa using none_)]
    rfl

/-- Every port is told, and of the rest the fault leaves what it leaves (R94, R116). -/
theorem driveFaulted_told (none_ : s.vom.unload = none) (empty : s.adu.queue = []) (silent : ∀ b ∈ s.writtenBlocks, b.waiters = [])
    (other : s.mpt.holder ≠ some .engine) (waits : s.mpt.engineWaits = false)
    (shut : ∀ p, (s.cursor p).state = .closed ∨ (s.cursor p).state = .failed) :
    OnlyPorts s.faulted (driveFaulted s) ∧
      ∀ p, (driveFaulted s).bodies p = posted (.volumeGone .drive s.vom.highestRsn 0)
        (if s.vom.counting then posted (.writeFailed .drive s.stagedRecords) (s.bodies p) else s.bodies p) := by
  cases counts : s.vom.counting with
  | false =>
    obtain ⟨ports, bodies⟩ := (OnlyPorts.refl (clearSession s.atFault)).goneByDrive none_
    rw [driveFaulted_empty counts shut]
    have same : (clearSession s.atFault).withFault = s.faulted := by simp [State.faulted, counts, State.withFault,
      clearSession, State.atFault, VolumeRecord.driveFaulted]
    rw [same] at ports
    exact ⟨ports, bodies⟩
  | true =>
    obtain ⟨y, isY⟩ : ∃ y : State, y = clearSession (freeBuffers s.staged s.atFault.unstaged) := ⟨_, rfl⟩
    have same : y.withFault = s.faulted := by
      simp [isY, State.faulted, counts, State.withFault, clearSession, State.atFault, VolumeRecord.driveFaulted,
        freeBuffers_eq, State.unstaged, Engine.reset, State.stagedRecords, State.writtenBlocks]
    obtain ⟨ports, bodies⟩ := (postAll_onlyPorts (ports := Port.all) (body := .writeFailed .drive s.stagedRecords)
      (s := y)).goneByDrive
      (by rw [isY, freeBuffers_eq]; exact none_)
    have told (p : Port) := bodies_postAll_all (s := y) (p := p) (body := .writeFailed .drive s.stagedRecords)
    have before (p : Port) : y.bodies p = s.bodies p := bodies_of_ntu (by rw [isY, freeBuffers_eq]; rfl)
    have highest : y.vom.highestRsn = s.vom.highestRsn := by rw [isY, freeBuffers_eq]; rfl
    rw [driveFaulted_staged counts empty silent other waits shut, ← isY, ← same]
    refine ⟨ports, fun p => ?_⟩
    rw [bodies p, told p, before p, highest, if_pos rfl]

theorem volumeDriveFault_stays (gone : s.vom.state = .none ∨ (s.vom.state = .faulted ∧ s.vom.cause = some .drive)) :
    volumeDriveFault s = s := by
  unfold volumeDriveFault
  obtain state | ⟨state, cause⟩ := gone
  · rw [state]
  · rw [state]
    exact if_pos cause

theorem volumeDriveFault_faults (some_ : s.vom.state ≠ .none) (other : ¬(s.vom.state = .faulted ∧ s.vom.cause = some .drive)) :
    volumeDriveFault s = driveFaulted s := by
  unfold volumeDriveFault
  split
  next state => exact absurd state some_
  next state => exact if_neg fun cause => other ⟨state, cause⟩
  all_goals rfl

/-- The drive, its operation and its clients cleared, where no buffer of an operation is to be freed (R71). -/
theorem clearDrive_noBuffer (noBuffer : ∀ o, s.mpt.link = some o → o.holdsBuffer = false) :
    clearDrive s = { s with mpt := s.mpt.bare, ape := { s.ape with yield := false } } := by
  have none_ : freeAbandoned s = s := by
    refine if_neg fun holds => ?_
    obtain ⟨o, linked, buffer⟩ := Option.any_eq_true _ _ |>.mp holds
    simp [noBuffer o linked] at buffer
  rw [clearDrive, none_]
  rfl

end Fault

/-- The end of a step behind postings, which may have freed buffers that nobody waits for. -/
theorem finish_woken {w : State} (reports : w.signals = [] ∨ w.signals = [.wake]) (none_ : NoneWaits w) :
    ∃ c, finish w = .next (driveInhibit { w with signals := [], choice := c }) := by
  obtain quiet | woken := reports
  · have same : { w with signals := [], choice := w.choice } = w := by rw [← quiet]
    exact ⟨w.choice, same ▸ finish_quiet w quiet⟩
  · exact ⟨w.choice + 2, finish_wake woken none_⟩

/-- Settles O44: a drive cleared, then the volume's fault, or that of the start-up test. -/
theorem Settled.driveFault : Obligations.DriveFault := by
  intro s quiet
  refine ⟨fun running empty pending silent shut noBuffer => ⟨fun gone => ?_, fun some_ other => ?_⟩, fun phase noBuffer => ?_⟩
  · rw [exec_driveFault running, driveFaultEvent, clearDrive_noBuffer noBuffer, volumeDriveFault_stays (by exact gone)]
    exact finish_quiet _ quiet
  · obtain ⟨x, isX⟩ : ∃ x : State, x = { s with mpt := s.mpt.bare, ape := { s.ape with yield := false } } := ⟨_, rfl⟩
    have acts : driveFaultEvent s = driveFaulted x := by
      rw [driveFaultEvent, clearDrive_noBuffer noBuffer, isX]
      exact volumeDriveFault_faults some_ other
    obtain ⟨only, bodies⟩ := driveFaulted_told (s := x) (by rw [isX]; exact pending) (by rw [isX]; exact empty)
      (by rw [isX]; exact silent) (by rw [isX]; simp [MediumPort.bare]) (by rw [isX]; rfl)
      (by rw [isX]; exact fun p => (shut p).1)
    rw [exec_driveFault running, acts]
    generalize driveFaulted x = w at only bodies
    obtain ⟨-, -, params, adu, pool, mpt, ape, vom, -, -, cursors, srt, signals, -⟩ := only.keeps
    obtain ⟨c, run⟩ := finish_woken (w := w) (by
      rw [signals, isX, State.faulted, quiet]
      dsimp only
      split
      next => exact .inr rfl
      next => exact .inl rfl) ⟨by rw [adu, isX]; exact empty, fun p => by
        rw [State.cursor, cursors, isX]
        exact fun starved => Phase.noConfusion ((shut p).2.symm.trans starved)⟩
    subst isX
    exact ⟨_, run, vom, mpt, srt, adu, pool, ape, bodies, cursors, params⟩
  · change finish (byMode driveFaultEvent faultInTest s) = _
    rw [byMode, phase]
    change finish (haltTest (clearDrive s)) = _
    rw [clearDrive_noBuffer noBuffer]
    exact finish_quiet _ quiet

/-! The end of the start-up test (R61, R98, R162, R179). -/

section StartUp

variable {s : State}

/-- A host port that has announced the part reset. -/
def HostPort.announced : HostPort :=
  { HostPort.reset with up := true, activity := some 20, transmit := [.notice 0 (.resetOccurred .part)] }

/-- A notice queue that has announced the part reset. -/
def NoticeUnit.announced : NoticeUnit :=
  { queue := [{ number := 0, body := .resetOccurred .part, sent := true }], counter := 1 }

/-- Two states with the same ports and the same notices. -/
abbrev SamePorts (s t : State) : Prop := s.ports = t.ports ∧ s.ntu = t.ntu

theorem SamePorts.post {s t : State} (same : SamePorts s t) (p : Port) (body : Notice) :
    SamePorts (Machine.post p body s) (Machine.post p body t) := by
  obtain ⟨ports, ntu⟩ := same
  simp only [SamePorts, Machine.post, place, State.setPort, State.setNotices, State.port, State.notices, ports, ntu, and_self]

theorem SamePorts.postAll {s t : State} (same : SamePorts s t) (ports : List Port) (body : Notice) :
    SamePorts (Machine.postAll ports body s) (Machine.postAll ports body t) := by
  induction ports generalizing s t with
  | nil => exact same
  | cons p ports ih => exact ih (same.post p body)

theorem SamePorts.hear {s t : State} (same : SamePorts s t) (p : Port) : SamePorts (Machine.hear p s) (Machine.hear p t) := by
  obtain ⟨ports, ntu⟩ := same
  simp only [SamePorts, Machine.hear, place, State.setPort, State.setNotices, State.port, State.notices, ports, ntu, and_self]

theorem SamePorts.enableLinks {s t : State} (same : SamePorts s t) : SamePorts (Machine.enableLinks s) (Machine.enableLinks t) := by
  rw [Machine.enableLinks, Machine.enableLinks]
  induction Port.all generalizing s t with
  | nil => exact same
  | cons p ports ih => exact ih (same.hear p)

theorem enableLinks_onlyPorts : OnlyPorts s (enableLinks s) := by
  rw [Machine.enableLinks]
  induction Port.all generalizing s with
  | nil => exact .refl s
  | cons p ports ih => exact OnlyPorts.trans (show OnlyPorts s (hear p s) from rfl) ih

/-- RESET_OCCURRED is posted to each port, and goes out as its link comes up (R158, R162, R179). -/
theorem enableLinks_announces (ports : s.ports = Vector.replicate 4 HostPort.reset)
    (ntu : s.ntu = Vector.replicate 4 NoticeUnit.reset) :
    enableLinks (postAll Port.all (.resetOccurred .part) s) =
      { s with ports := Vector.replicate 4 HostPort.announced, ntu := Vector.replicate 4 NoticeUnit.announced } := by
  have same : SamePorts s State.reset := ⟨ports, ntu⟩
  have atReset : SamePorts (enableLinks (postAll Port.all (.resetOccurred .part) State.reset)) { State.reset with
      ports := Vector.replicate 4 HostPort.announced, ntu := Vector.replicate 4 NoticeUnit.announced } := by decide
  obtain ⟨ports', ntu'⟩ := (same.postAll Port.all (.resetOccurred .part)).enableLinks
  have only := (postAll_onlyPorts (s := s) (ports := Port.all) (body := .resetOccurred .part)).trans enableLinks_onlyPorts
  rw [only, ports', ntu', atReset.1, atReset.2]

/-- A state in which the start-up test is over. -/
def State.tested (s : State) (present : Bool) : State :=
  { s with ctl := { s.ctl with test := .running, testLines := 0, cartridgeNoted := present } }

/-- A state in which the part runs, and its ports have announced the part reset. -/
def State.started (s : State) (present : Bool) : State :=
  { s.tested present with
    ports := Vector.replicate 4 HostPort.announced, ntu := Vector.replicate 4 NoticeUnit.announced }

theorem startUpPass_eq (now : Bool) (s : State) : startUpPass now s =
    enableLinks (postAll Port.all (.resetOccurred .part)
      (if (now || s.ctl.cartridgeNoted) = true then beginMount (s.tested (now || s.ctl.cartridgeNoted))
      else s.tested (now || s.ctl.cartridgeNoted))) := by
  cases now <;> rfl

theorem startUpPass_empty {now : Bool} (ports : s.ports = Vector.replicate 4 HostPort.reset)
    (ntu : s.ntu = Vector.replicate 4 NoticeUnit.reset) (absent : (now || s.ctl.cartridgeNoted) = false) :
    startUpPass now s = s.started false := by
  rw [startUpPass_eq, absent, if_neg Bool.false_ne_true, enableLinks_announces (by exact ports) (by exact ntu)]
  rfl

theorem startUpPass_mounts {now : Bool} (ports : s.ports = Vector.replicate 4 HostPort.reset)
    (ntu : s.ntu = Vector.replicate 4 NoticeUnit.reset) (present : (now || s.ctl.cartridgeNoted) = true)
    (free : s.mpt.holder = none) (idle : s.mpt.link = none) (waits : s.mpt.volumeWaits = false) :
    startUpPass now s = raise (.granted .volume) ((s.started true).setVol .mounting).volumeHolds := by
  have mounts : beginMount (s.tested true) = raise (.granted .volume) ((s.tested true).setVol .mounting).volumeHolds := by
    rw [beginMount, request_free (by exact free) (by exact idle) (by exact waits)]
    rfl
  rw [startUpPass_eq, present, if_pos rfl, mounts, enableLinks_announces (by exact ports) (by exact ntu)]
  rfl

end StartUp

/-- Settles O14, by whether a cartridge is present. -/
theorem startUpPasses : Obligations.StartUpPasses := by
  intro s n c head present phase quiet linked free none_ volume ports ntu cases_
  have ends (now : Bool) (act : State → State) (noted : present = (now || s.ctl.cartridgeNoted)) :
      finish (completion n DriveOp.isMount (fun _ => head) (mountAnswer now act) s) = .next (driveInhibit (if present then
        { ((endOperation head s).started true).setVol .mounting with
          mpt := ((((endOperation head s).started true).setVol .mounting).volumeHolds).mpt.send .mount .volume false }
        else (endOperation head s).started false)) := by
    cases present with
    | false =>
      exact finish_completion linked rfl rfl (startUpPass_empty (s := endOperation head s) ports ntu noted.symm)
        (handOver_noneAsks none_) quiet
    | true =>
      exact finish_raised (g := .granted .volume) linked rfl rfl
        (startUpPass_mounts (s := endOperation head s) ports ntu noted.symm free rfl none_.1) (handOver_held rfl)
        (by exact quiet) (volumeGranted_mounts rfl rfl rfl) quiet
  have result : exec c s = .next (driveInhibit (if present then
        { ((endOperation head s).started true).setVol .mounting with
          mpt := ((((endOperation head s).started true).setVol .mounting).volumeHolds).mpt.send .mount .volume false }
        else (endOperation head s).started false)) := by
    obtain ⟨⟨cap, ser, m, rfl⟩, rfl, rfl⟩ | ⟨rfl, rfl, rfl⟩ | ⟨rfl, rfl, rfl⟩ := cases_
    · exact ends true _ rfl
    · exact ends false _ (by simp)
    · exact ends true _ rfl
  rw [result]
  cases present with
  | false =>
    simp [State.started, State.tested, HostPort.announced, NoticeUnit.announced, endOperation, free, volume]
  | true =>
    simp [State.started, State.tested, HostPort.announced, NoticeUnit.announced, endOperation, State.setVol, State.volumeHolds,
      MediumPort.send, Config.opLimit, volume, VolumeRecord.unset, none_.1]

/-! The reset of a port (R35, R136, R139, R152, R161, R164, R169, R170). -/

/-! ## The link of a port that places what waits (R162, R171) -/

/-- What placing leaves of the link of a port and of the numbering of its notices. -/
def LinkKept (h g : HostPort) (n m : NoticeUnit) : Prop :=
  g.up = h.up ∧ g.activity = h.activity ∧ g.errors = h.errors ∧ m.counter = n.counter

theorem LinkKept.trans {h g f : HostPort} {n m l : NoticeUnit} (a : LinkKept h g n m) (b : LinkKept g f m l) :
    LinkKept h f n l := by
  obtain ⟨up, activity, errors, counter⟩ := a
  obtain ⟨up', activity', errors', counter'⟩ := b
  exact ⟨up'.trans up, activity'.trans activity, errors'.trans errors, counter'.trans counter⟩

theorem placeOne_link (w : WaitItem) (h : HostPort) (n : NoticeUnit) : LinkKept h (placeOne w h n).1 n (placeOne w h n).2 := by
  unfold placeOne
  split
  next => split <;> exact ⟨rfl, rfl, rfl, rfl⟩
  next => split <;> exact ⟨rfl, rfl, rfl, rfl⟩

theorem placeItems_link (ws : List WaitItem) (h : HostPort) (n : NoticeUnit) :
    LinkKept h (placeItems ws h n).1 n (placeItems ws h n).2 := by
  induction ws generalizing h n with
  | nil => exact ⟨rfl, rfl, rfl, rfl⟩
  | cons w ws ih =>
    rw [placeItems]
    split
    next => exact (placeOne_link w h n).trans (ih _ _)
    next => exact ⟨rfl, rfl, rfl, rfl⟩

section Link

variable {s : State} {p q : Port} {body : Notice}

theorem place_link : LinkKept (s.port p) ((place p s).port p) (s.notices p) ((place p s).notices p) := by
  rw [State.port_place, State.notices_place, if_pos rfl, if_pos rfl]
  exact placeItems_link _ _ _

theorem hear_port : ((hear p s).port p).up = true ∧ ((hear p s).port p).activity = some 20 ∧
    ((hear p s).port p).errors = (s.port p).errors ∧ ((hear p s).notices p).counter = (s.notices p).counter := by
  have kept := place_link (s := s.setPort p { s.port p with up := true, activity := some Config.activityLimit }) (p := p)
  rw [State.port_setPort_same, State.notices_setPort] at kept
  exact kept

theorem hear_other (other : p ≠ q) : (hear p s).port q = s.port q ∧ (hear p s).notices q = s.notices q := by
  simp [hear, State.port_setPort, other]

theorem post_up : ((post p body s).port p).up = (s.port p).up := by
  rw [post]
  refine place_link.1.trans ?_
  rw [State.port_setNotices, State.port_setPort_same]
  rfl

theorem postAll_up {ports : List Port} (distinct : ports.Nodup) : ((postAll ports body s).port p).up = (s.port p).up := by
  by_cases mem : p ∈ ports
  · obtain ⟨u, port, -, after, -⟩ := postAll_mem (s := s) (body := body) distinct mem
    rw [after, post_up, port]
  · rw [(postAll_other mem).1]

/-- A notice to an empty queue takes the counter's number, and goes out at once where the link is up and nothing else waits. -/
theorem post_cleared (empty : (s.notices p).queue = []) (cleared : (s.port p).waiting = []) (bare : (s.port p).transmit = []) :
    (post p body s).port p = if (s.port p).up then { s.port p with transmit := [.notice (s.notices p).counter body] }
      else { s.port p with waiting := [.notice (s.notices p).counter] } := by
  have alone : (s.port p).withdraw [] = s.port p := by
    have none_ : (s.port p).waiting.filter (fun _ => true) = (s.port p).waiting := List.filter_true _
    exact congrArg (fun w => { s.port p with waiting := w }) none_
  rw [post, empty]
  simp only [List.filter_nil, List.foldl_nil, List.nil_append, alone, cleared, freshNumber, List.any_nil, Bool.false_eq_true,
    if_false]
  rw [State.port_place, if_pos rfl, State.port_setNotices, State.port_setPort_same, State.notices_setNotices_same]
  by_cases up : (s.port p).up = true
  · rw [if_pos up, placeItems_notice (e := { number := (s.notices p).counter, body := body, sent := false }) (by exact up)
      (by simp [bare]) (by simp), bare, ← cleared]
    rfl
  · rw [if_neg up, placeItems, if_neg (by simp [up])]

end Link

/-! ## The five parts of a port reset (R169) -/

section Reset

variable {s x : State} {p : Port}

/-- Removing a port's entries behind another port's head evaluates nothing (R17, R35). -/
theorem purgePort_behind (whenHead : State → State) (behind : ∀ e, s.adu.queue.head? = some e → e.port ≠ p) :
    purgePort p whenHead s = (s.mapBlocks fun b => b.without p).setQueue (s.adu.queue.filter fun e => e.port ≠ p) := by
  have stays : ¬(s.adu.queue.head?.any fun e => e.port == p) = true := fun gone => by
    obtain ⟨e, head, own⟩ := Option.any_eq_true _ _ |>.mp gone
    exact behind e head (by simpa using own)
  have keeps : (fun e : Entry => !(e.port == p)) = fun e => decide (e.port ≠ p) := by
    funext e
    by_cases own : e.port = p <;> simp [own]
  have drops : dropWaiters (fun w => w.1 == p) s = s.mapBlocks fun b => b.without p := by
    have one (b : Block) : { b with waiters := b.waiters.filter fun w => !(w.1 == p) } = b.without p := by
      rw [Block.without]
      refine congrArg (fun f => { b with waiters := b.waiters.filter f }) (funext fun w => ?_)
      by_cases own : w.1 = p <;> simp [own]
    exact congrArg (fun f => s.mapBlocks f) (funext one)
  rw [purgePort, drops, removeEntries]
  rw [if_neg fun both => stays both.1, ← keeps]
  rfl

/-- A cursor without blocks and without the grant is closed (R136). -/
theorem closeCursor_other (other : s.mpt.holder ≠ some (.cursor p)) (calm : s.ape.yield = false)
    (empty : (s.cursor p).buffered = []) : ∃ (m : MediumPort) (cs : Vector Cursor 4),
      closeCursor p false s = { s with mpt := m, cursors := cs } ∧
      m.holder = s.mpt.holder ∧ m.link.map (fun o => (o.op, o.number)) = s.mpt.link.map (fun o => (o.op, o.number)) ∧
      cs[p].state = .closed ∧ ∀ q : Port, q ≠ p → cs[q] = s.cursor q := by
  by_cases closed : (s.cursor p).state = .closed
  · exact ⟨s.mpt, s.cursors, if_pos closed, rfl, rfl, closed, fun _ _ => rfl⟩
  · refine ⟨s.mpt.without p, s.cursors.set p Cursor.reset, ?_, rfl, ?_, ?_, fun q apart => ?_⟩
    · rw [closeCursor, if_neg closed, if_neg Bool.false_ne_true, dropCursor_other _ other calm, empty]
      rfl
    · rw [MediumPort.without, Option.map_map]
      refine congrArg (Option.map · s.mpt.link) (funext fun o => ?_)
      by_cases own : o.issuer = .cursor p <;> simp [own]
    · simp [Cursor.reset]
    · simp [State.cursor, Fin.val_ne_of_ne (Ne.symm apart)]

/-- The parts of a port reset but for the notices, behind another port's head (R169). -/
def State.portCleared (s : State) (p : Port) (m : MediumPort) (cs : Vector Cursor 4) : State :=
  { (s.mapBlocks fun b => b.without p).setQueue (s.adu.queue.filter fun e => e.port ≠ p) with
    ports := s.ports.set p (s.port p).cleared
    srt := s.srt.releasePort p
    vom := { s.vom with unload := s.vom.unload.map fun u => if u.port = p then { u with owed := false } else u }
    mpt := m, cursors := cs }

theorem portReset_behind (behind : ∀ e, s.adu.queue.head? = some e → e.port ≠ p)
    (other : s.mpt.holder ≠ some (.cursor p)) (calm : s.ape.yield = false) (empty : (s.cursor p).buffered = []) :
    ∃ (m : MediumPort) (cs : Vector Cursor 4), portReset p s = resetNotices p (s.portCleared p m cs) ∧
      m.holder = s.mpt.holder ∧ m.link.map (fun o => (o.op, o.number)) = s.mpt.link.map (fun o => (o.op, o.number)) ∧
      cs[p].state = .closed ∧ ∀ q : Port, q ≠ p → cs[q] = s.cursor q := by
  have stays : (s.adu.queue.head?.any fun e => e.port == p) = false := by
    refine Bool.eq_false_iff.mpr fun gone => ?_
    obtain ⟨e, head, own⟩ := Option.any_eq_true _ _ |>.mp gone
    exact behind e head (by simpa using own)
  obtain ⟨m, cs, closed, facts⟩ := closeCursor_other (p := p)
    (s := releaseClaims p (((s.setPort p (s.port p).cleared).mapBlocks fun b => b.without p).setQueue
      (s.adu.queue.filter fun e => e.port ≠ p))) other calm empty
  refine ⟨m, cs, ?_, facts⟩
  rw [portReset, show (s.setPort p (s.port p).cleared).adu = s.adu from rfl, stays, Bool.false_and, Bool.false_and,
    if_neg Bool.false_ne_true, if_neg Bool.false_ne_true, purgePort_behind _ (by exact behind)]
  refine (congrArg (fun z => resetNotices p (disownUnload p z)) closed).trans ?_
  rfl

/-- What a port reset makes of a state that differs from `s` in the port only. -/
theorem portReset_resets (only : OnlyPorts s x) (others : ∀ q, p ≠ q → x.port q = s.port q ∧ x.notices q = s.notices q)
    (counter : (x.notices p).counter = (s.notices p).counter) (behind : ∀ e, s.adu.queue.head? = some e → e.port ≠ p)
    (other : s.mpt.holder ≠ some (.cursor p)) (calm : s.ape.yield = false) (empty : (s.cursor p).buffered = []) :
    ∃ t, portReset p x = t ∧ t.signals = s.signals ∧ PortWasReset p s (driveInhibit t) ∧
      t.port p = if (x.port p).up then
          { (x.port p).cleared with transmit := [.notice (s.notices p).counter (.resetOccurred .port)] }
        else { (x.port p).cleared with waiting := [.notice (s.notices p).counter] } := by
  obtain ⟨-, ctl, params, adu, pool, mpt, ape, vom, -, -, cursors, srt, signals, -⟩ := only.keeps
  have cursor (q : Port) : x.cursor q = s.cursor q := by rw [State.cursor, State.cursor, cursors]
  obtain ⟨m, cs, reset, holder, link, closed, kept⟩ := portReset_behind (s := x) (p := p) (by rw [adu]; exact behind)
    (by rw [mpt]; exact other) (by rw [ape]; exact calm) (by rw [cursor]; exact empty)
  obtain ⟨z, isZ⟩ : ∃ z : State, z = (x.portCleared p m cs).setNotices p { x.notices p with queue := [] } := ⟨_, rfl⟩
  have own : z.port p = (x.port p).cleared := by rw [isZ]; simp [State.port, State.portCleared, State.setNotices]
  have notes : z.notices p = { x.notices p with queue := [] } := by rw [isZ]; simp
  have first := post_cleared (s := z) (p := p) (body := .resetOccurred .port) (by rw [notes]) (by rw [own]; rfl) (by rw [own]; rfl)
  have body := bodies_post_same (s := z) (p := p) (body := .resetOccurred .port)
  have apart (q : Port) (ne : p ≠ q) : (post p (.resetOccurred .port) z).port q = s.port q ∧
      (post p (.resetOccurred .port) z).notices q = s.notices q := by
    obtain ⟨port, notices⟩ := post_other (s := z) (body := .resetOccurred .port) ne
    obtain ⟨port', notices'⟩ := others q ne
    have same : z.port q = x.port q ∧ z.notices q = x.notices q := by
      rw [isZ]
      simp [State.port, State.portCleared, State.setNotices, State.notices, Fin.val_ne_of_ne ne, State.setQueue, State.mapBlocks]
    exact ⟨port.trans (same.1.trans port'), notices.trans (same.2.trans notices')⟩
  obtain ⟨y, isY⟩ : ∃ y : State, y = post p (.resetOccurred .port) z := ⟨_, rfl⟩
  have toY : OnlyPorts z y := isY ▸ post_onlyPorts
  rw [← isY] at first body apart
  obtain ⟨t, isT⟩ : ∃ t : State, t = postAll (Port.all.filter fun q => q ≠ p) (.portDown (PortSet.empty.set p true)) y := ⟨_, rfl⟩
  have toT : OnlyPorts y t := isT ▸ postAll_onlyPorts
  obtain ⟨tPort, tNotices⟩ : t.port p = y.port p ∧ t.notices p = y.notices p := isT ▸ postAll_other (by simp)
  have distinct : (Port.all.filter fun q => q ≠ p).Nodup := nodup_portAll.filter _
  have told (q : Port) (ne : q ≠ p) : t.bodies q = posted (.portDown (PortSet.empty.set p true)) (y.bodies q) :=
    isT ▸ bodies_postAll distinct (mem_otherPorts.mpr ne)
  have slots (q : Port) (ne : q ≠ p) : SlotsKept q y t := isT ▸ slotsKept_postAll distinct (mem_otherPorts.mpr ne)
  have up (q : Port) : (t.port q).up = (y.port q).up := isT ▸ postAll_up distinct
  have run : portReset p x = t := by rw [reset, isT, isY, isZ]; rfl
  obtain ⟨-, ctl', params', adu', pool', mpt', ape', vom', -, -, cursors', srt', signals', -⟩ := (toY.trans toT).keeps
  rw [isZ] at ctl' params' adu' pool' mpt' ape' vom' cursors' srt' signals'
  rw [own, notes, counter] at first
  have port := tPort.trans first
  have bodies : t.bodies p = [.resetOccurred .port] := by
    rw [State.bodies, tNotices, ← State.bodies, body, State.bodies, notes]
    rfl
  refine ⟨t, run, signals'.trans signals, ?_, port⟩
  have cursorIs (q : Port) : (driveInhibit t).cursor q = cs[q] := by
    change t.cursors[q] = _
    rw [cursors']
    rfl
  exact {
    slots := by
      refine (congrArg HostPort.tags port).trans ?_
      split <;> rfl
    errors := by
      refine (congrArg HostPort.errors port).trans ?_
      split <;> rfl
    notice := bodies
    others := fun q ne => by
      obtain ⟨yPort, yNotices⟩ := apart q (Ne.symm ne)
      refine ⟨(told q ne).trans (by rw [State.bodies, yNotices, ← State.bodies]), fun tag none_ => ?_, (up q).trans (by rw [yPort])⟩
      have same : y.slot q tag = s.slot q tag := by rw [State.slot, State.slot, yPort]
      exact (slots q ne tag (by rw [same]; exact none_)).trans same
    queue := adu'.trans (by rw [← adu]; rfl)
    pool := pool'.trans (by rw [← pool]; rfl)
    engine := ape'.trans (by rw [← ape]; rfl)
    claims := by
      have claims := srt'.trans (show _ = s.srt.releasePort p by rw [← srt]; rfl)
      exact ⟨congrArg Claims.streams claims, congrArg Claims.volume claims, congrArg Claims.locks claims⟩
    volume := vom'.trans (by rw [← vom]; rfl)
    cursor := ⟨by rw [cursorIs]; exact closed, fun q ne => by rw [cursorIs, kept q ne, cursor]⟩
    rest := ⟨params'.trans params, ctl'.trans ctl, (congrArg MediumPort.holder mpt').trans (holder.trans (by rw [mpt])),
      (congrArg (fun m : MediumPort => m.link.map fun o => (o.op, o.number)) mpt').trans (link.trans (by rw [mpt]))⟩ }

theorem port_of_reset {t : State} {h : HostPort} (port : t.port p = if h.up then
      { h.cleared with transmit := [.notice (s.notices p).counter (.resetOccurred .port)] }
    else { h.cleared with waiting := [.notice (s.notices p).counter] }) :
    (t.port p).up = h.up ∧ (t.port p).activity = h.activity ∧
      (t.port p).transmit = if h.up then [.notice (s.notices p).counter (.resetOccurred .port)] else [] := by
  rw [port]
  split <;> exact ⟨rfl, rfl, rfl⟩

end Reset

/-- Settles O16: the three events lead to one reset, of a link that is up or down. -/
theorem portResets : Obligations.PortResets := by
  intro s p ⟨running, quiet⟩ behind empty other calm
  have resets {x : State} (only : OnlyPorts s x) (others : ∀ q, p ≠ q → x.port q = s.port q ∧ x.notices q = s.notices q)
      (counter : (x.notices p).counter = (s.notices p).counter) : ∃ t, finish (portReset p x) = .next t ∧
        (t.port p).up = (x.port p).up ∧ (t.port p).activity = (x.port p).activity ∧
        (t.port p).transmit = (if (x.port p).up then [.notice (s.notices p).counter (.resetOccurred .port)] else []) ∧
        PortWasReset p s t := by
    obtain ⟨t, reset, signals, was, port⟩ := portReset_resets only others counter behind other calm empty
    obtain ⟨up, activity, transmit⟩ := port_of_reset port
    exact ⟨driveInhibit t, by rw [reset]; exact finish_quiet t (signals.trans quiet), up, activity, transmit, was⟩
  obtain ⟨up, activity, errors, counter⟩ := hear_port (s := s) (p := p)
  have heard : OnlyPorts s (hear p s) := rfl
  have limit (eighth : (s.port p).errors = 7) : badFrame p (hear p s) = portReset p (hear p s) := by
    rw [badFrame, errors, eighth]
    exact if_pos (by decide)
  have limited (eighth : (s.port p).errors = 7) : frameLimit p s = badFrame p (hear p s) := by
    rw [frameLimit, eighth]
    exact if_pos (by decide)
  refine ⟨?_, fun eighth => ⟨?_, ?_⟩, fun runs => ?_⟩
  · change ∃ t, finish (whenRunning (fun s => portReset p (goodFrame p (hear p s))) s) = _ ∧ _
    rw [whenRunning_running _ _ running]
    have own : (goodFrame p (hear p s)).port p = { (hear p s).port p with errors := 0 } := State.port_setPort_same ..
    obtain ⟨t, run, up', activity', transmit, was⟩ := resets (x := goodFrame p (hear p s)) rfl
      (fun q ne => by
        obtain ⟨port, notices⟩ := hear_other (s := s) ne
        exact ⟨(State.port_setPort_other _ _ ne).trans port, notices⟩)
      counter
    rw [own] at up' activity' transmit
    exact ⟨t, run, up'.trans up, activity'.trans activity, transmit.trans (if_pos up), was⟩
  · change finish (whenRunning (fun s => badFrame p (hear p s)) s) = finish (whenRunning (frameLimit p) s)
    rw [whenRunning_running _ _ running, whenRunning_running _ _ running, limited eighth]
  · change ∃ t, finish (whenRunning (frameLimit p) s) = _ ∧ _
    rw [whenRunning_running _ _ running, limited eighth, limit eighth]
    obtain ⟨t, run, up', activity', transmit, was⟩ := resets heard (fun q ne => hear_other ne) counter
    exact ⟨t, run, up'.trans up, activity'.trans activity, transmit.trans (if_pos up), was⟩
  · change ∃ t, finish (whenRunning (linkLost p) s) = _ ∧ _
    rw [whenRunning_running _ _ running, linkLost, if_pos (Option.isSome_iff_ne_none.mpr runs)]
    have own : (s.setPort p { s.port p with up := false, activity := none }).port p =
        { s.port p with up := false, activity := none } := State.port_setPort_same ..
    obtain ⟨t, run, up', activity', transmit, was⟩ := resets (x := s.setPort p { s.port p with up := false, activity := none })
      rfl (fun q ne => ⟨State.port_setPort_other _ _ ne, rfl⟩) rfl
    rw [own] at up' activity' transmit
    exact ⟨t, run, up', activity', transmit, was⟩

/-! The read of a cursor (R125, R127 to R131, R133): the judgement of the slot, and the fill's next step. -/

/-! ## The judgement of a slot (R127) -/

/-- The header of a GOOD slot stands in its bytes (R7). -/
theorem header_of_classify {b : List Byte} {h : SlotHeader} (good : classify b = .good h) :
    natAt 4 4 b = h.bsn ∧ natAt 8 2 b = h.session := by
  unfold classify at good
  split at good
  next =>
    obtain rfl := SlotClass.good.inj good
    exact ⟨rfl, rfl⟩
  next => cases good

theorem readEnds_header {k : Byte} {c : Instr} {good : Option SlotHeader} {bytes : Option (List Byte)}
    (ends : ReadEnds k c good bytes) {h : SlotHeader} (isGood : good = some h) :
    natAt 4 4 (bytes.getD []) = h.bsn ∧ natAt 8 2 (bytes.getD []) = h.session := by
  subst isGood
  obtain ⟨none_, -⟩ | ⟨b, rfl, -, ⟨none_, -⟩ | ⟨g, same, class_⟩⟩ := ends
  · cases none_
  · cases none_
  · obtain rfl := Option.some.inj same
    exact header_of_classify class_

section Judging

variable {c : Cursor} {d : Nat} {cls : SlotClass} {good : Option SlotHeader} {h : SlotHeader} {v : VolumeRecord}

theorem judge_readBeyond (n : Nat) (cls : SlotClass) : (c.readBeyond n).judge (some d) cls = c.judge (some d) cls := rfl

/-- A GOOD slot, not above D, where a BSN is expected (R127). -/
theorem judge_expected {e : Nat} (within : h.bsn ≤ d) (expected : c.expected = some e) : c.judge (some d) (.good h) =
    if h.bsn = e then .accept else if h.bsn < e then .skip else .skipAbove := by
  simp [Cursor.judge, aboveBound, Nat.not_lt.mpr within, expected]

/-- A GOOD slot, not above D, where no BSN is expected (R127). -/
theorem judge_unexpected (within : h.bsn ≤ d) (expected : c.expected = none) : c.judge (some d) (.good h) =
    if ∀ l, c.last = some l → l < h.bsn then .accept else .skip := by
  cases last : c.last <;> simp [Cursor.judge, aboveBound, Nat.not_lt.mpr within, expected, last]

theorem judge_passesBy (as_ : ReadsAs cls good) (passes : c.passesBy d good) : c.judge (some d) cls = .skip := by
  obtain ⟨-, other⟩ | ⟨h, rfl, rfl⟩ := as_
  · cases cls with
    | good h => exact absurd rfl (other h)
    | blank | bad => rfl
  · obtain none_ | ⟨g, same, within, before⟩ := passes
    · cases none_
    · cases same
      obtain ⟨e, expected, below⟩ | ⟨expected, l, last, below⟩ := before
      · rw [judge_expected within expected, if_neg (Nat.ne_of_lt below), if_pos below]
      · rw [judge_unexpected within expected, if_neg fun later => Nat.not_le.mpr (later l last) below]

theorem judge_missesAt (misses : c.missesAt d h) : c.judge (some d) (.good h) = .skipAbove := by
  obtain ⟨within, e, expected, above⟩ := misses
  rw [judge_expected within expected, if_neg (Nat.ne_of_gt above), if_neg (Nat.not_lt.mpr (Nat.le_of_lt above))]

theorem judge_beyond (above : d < h.bsn) : c.judge (some d) (.good h) = .frontierStop := by
  simp [Cursor.judge, aboveBound, above]

theorem judge_takes (takes : c.takes d h) : c.judge (some d) (.good h) = .accept := by
  obtain ⟨within, expected | ⟨expected, later⟩⟩ := takes
  · rw [judge_expected within expected, if_pos rfl]
  · rw [judge_unexpected within expected, if_pos later]

/-! ## Resynchronisation (R128 to R130) -/

theorem checkLost_stays (stays : c.candidate = none ∨ (c.skipped < 32 ∧ c.pastFrontier v = false)) : c.checkLost v = c := by
  unfold Cursor.checkLost
  split
  next j y candidate =>
    obtain none_ | ⟨few, before⟩ := stays
    · simp [candidate] at none_
    · refine if_neg fun lost => lost.elim (fun many => ?_) fun past => ?_
      · exact absurd few (Nat.not_lt.mpr many)
      · simp [before] at past
  next => rfl

theorem checkLost_resyncs {j y : Nat} (candidate : c.candidate = some (j, y))
    (lost : 32 ≤ c.skipped ∨ c.pastFrontier v = true) : c.checkLost v = c.resync j := by
  rw [Cursor.checkLost, candidate]
  exact if_pos lost

theorem stopAt_resyncs {j y slot bsn : Nat} (candidate : c.candidate = some (j, y)) : c.stopAt slot bsn = c.resync j := by
  rw [Cursor.stopAt, candidate]

theorem stopAt_alone {slot bsn : Nat} (none_ : c.candidate = none) :
    c.stopAt slot bsn = { c with readPos := some slot, hold := some bsn } := by
  unfold Cursor.stopAt
  split
  next j y candidate => simp [none_] at candidate
  next => rfl

/-! ## What a read makes of a cursor (R127 to R131) -/

variable {n : Nat} {image : List Byte}

theorem afterRead_passesBy (frontier : v.frontier = some d) (as_ : ReadsAs cls good) (passes : c.passesBy d good) :
    c.afterRead v n cls image = ((c.readBeyond n).skip.checkLost v, false) := by
  rw [Cursor.afterRead_eq, frontier, judge_readBeyond, judge_passesBy as_ passes]
  rfl

theorem afterRead_missesAt (frontier : v.frontier = some d) (misses : c.missesAt d h) :
    c.afterRead v n (.good h) image = (({ c.readBeyond n with candidate := some (c.candidate.getD (n,
      h.bsn)) } : Cursor).skip.checkLost v, false) := by
  rw [Cursor.afterRead_eq, frontier, judge_readBeyond, judge_missesAt misses]
  rfl

theorem afterRead_beyond (frontier : v.frontier = some d) (above : d < h.bsn) :
    c.afterRead v n (.good h) image = ((c.readBeyond n).stopAt n h.bsn, false) := by
  rw [Cursor.afterRead_eq, frontier, judge_readBeyond, judge_beyond above]
  rfl

theorem afterRead_takes (frontier : v.frontier = some d) (takes : c.takes d h) :
    c.afterRead v n (.good h) image = ((c.readBeyond n).acceptSlot n h.bsn image (!(c.filter.select image).isEmpty),
      !(c.filter.select image).isEmpty) := by
  rw [Cursor.afterRead_eq, frontier, judge_readBeyond, judge_takes takes]
  have none_ (keep : Bool) : ((c.readBeyond n).acceptSlot n h.bsn image keep).candidate = none := by
    cases keep <;> rfl
  exact congrArg (·, _) (checkLost_stays (.inl (none_ _)))

end Judging

/-! The fill's next step behind a read (R125, R128, R130, R133). -/

section Next

variable {s u : State} {p : Port} {w z : Cursor} {cls : SlotClass} {image : List Byte} {n : Nat}

/-- A state in which the buffer of a read is FREE again, and the cursor of port p is `w`. -/
def State.released (s : State) (p : Port) (w : Cursor) : State :=
  { s.setCursor p w with pool := { s.pool with free := s.pool.free + 1 }, signals := s.signals ++ [.wake] }

theorem cursor_released : (s.released p w).cursor p = w := State.cursor_setCursor_same _ p w

theorem deriveCursor_setCursor (derived : z.derive s.vom = w) : deriveCursor p (s.setCursor p z) = s.setCursor p w := by
  rw [deriveCursor, State.cursor_setCursor_same, State.setCursor_setCursor]
  exact congrArg (s.setCursor p) derived

/-- The read's block is not kept (R127). -/
theorem cursorRead_released (after : (s.cursor p).afterRead s.vom n cls image = (z, false)) (derived : z.derive s.vom = w) :
    cursorRead p n cls image s = fillStep p (s.released p w) := by
  rw [cursorRead, after]
  dsimp only
  rw [deriveCursor_setCursor derived, if_neg Bool.false_ne_true]
  rfl

/-- The read's block is kept, and no NEXT waits for it (R127). -/
theorem cursorRead_kept (after : (s.cursor p).afterRead s.vom n cls image = (z, true)) (derived : z.derive s.vom = w)
    (silent : w.next = none) : cursorRead p n cls image s = fillStep p (s.setCursor p w) := by
  rw [cursorRead, after]
  dsimp only
  rw [deriveCursor_setCursor derived, if_pos rfl, deliverPending, State.cursor_setCursor_same, silent]

/-- The read's block is kept, and delivered at once to the NEXT that waits for it (R132, R133). -/
theorem cursorRead_delivered {y : Tag} {e : Buffered} {x : Cursor} (after : (s.cursor p).afterRead s.vom n cls image = (z, true))
    (derived : z.derive s.vom = x) (pending : x.next = some y) (alone : x.buffered = [e]) (reading : x.phase = .reading)
    (again : Cursor.derive { x with next := none, buffered := [] } s.vom = w) (can : CanReply s p y) :
    cursorRead p n cls image s = fillStep p (({ s with
      ports := s.replied p y .done (e.body x.filter) { s.replyMarks p y with gap := e.gap } } : State).released p w) := by
  have canX : CanReply (s.setCursor p x.noNext) p y := can
  have answered : replyWith p y .done (e.body x.filter) false e.gap (s.setCursor p x.noNext) =
      ({ s with ports := s.replied p y .done (e.body x.filter) { s.replyMarks p y with gap := e.gap } } : State).setCursor p
        x.noNext := by
    rw [replyWith_replied canX]
    rfl
  obtain ⟨t, isT⟩ : ∃ t : State, t = { s with
    ports := s.replied p y .done (e.body x.filter) { s.replyMarks p y with gap := e.gap } } := ⟨_, rfl⟩
  rw [← isT] at answered ⊢
  have delivered : deliver p y (s.setCursor p x.noNext) = t.released p w := by
    have some_ : x.noNext.buffered = [e] := alone
    have derives : deriveCursor p (freeBuffers 1 (t.setCursor p { x with next := none, buffered := [] })) = t.released p w := by
      rw [freeBuffers_eq]
      exact deriveCursor_setCursor (s := freeBuffers 1 t) (by rw [freeBuffers_eq, isT]; exact again)
    have phase : w.phase = .reading := by
      rw [← again, (Cursor.derive_keeps _ _).2.1]
      exact reading
    rw [deliver, State.cursor_setCursor_same, some_]
    dsimp only
    rw [show x.noNext.filter = x.filter from rfl, answered, State.setCursor_setCursor]
    change fillCheck p (deriveCursor p (freeBuffers 1 (t.setCursor p { x with next := none, buffered := [] }))) = _
    rw [derives]
    exact fillCheck_unwanted (by rw [cursor_released]; simp [State.fillWanted, phase])
      (by rw [cursor_released, phase]; exact Phase.noConfusion)
  rw [cursorRead, after]
  dsimp only
  rw [deriveCursor_setCursor derived, if_pos rfl, deliverPending, State.cursor_setCursor_same, pending]
  dsimp only
  rw [if_neg (by simp [alone]), State.setCursor_setCursor, delivered]

/-- The buffer that an outstanding read of a cursor holds counts until it ends (R39). -/
theorem replayCount_ended {o : Outstanding} (linked : s.mpt.link = some o) (holds : o.holdsBuffer = true)
    (same : w.buffered.length = (s.cursor p).buffered.length) :
    ((endOperation (some (n + 1)) s).setCursor p w).replayCount + 1 = s.replayCount := by
  have exchange := s.cursorBuffers_setCursor p w
  simp only [State.replayCount_eq, linked, heldByLink_some, if_pos holds]
  simp only [endOperation, State.setCursor, heldByLink_none]
  omega

/-! ## The next step (R125) -/

theorem fillOver_released {i : Nat} (inUse : w.inUse = some i) (room : w.buffered.length < i) (few : w.reads < 8)
    (before : w.pastFrontier s.vom = false) (hold : w.hold = none) : (s.released p w).fillOver w = false :=
  fillOver_false inUse room few before (by rw [Cursor.held, hold])

theorem fillStep_released_reads (held : s.mpt.holder = some (.cursor p)) (reading : w.phase = .reading) (idle : s.mpt.link = none)
    {i : Nat} (inUse : w.inUse = some i) (room : w.buffered.length < i) (few : w.reads < 8)
    (before : w.pastFrontier s.vom = false) (hold : w.hold = none) (pos : w.readPos = some n) (there : s.mpt.head = some n)
    (floor : s.params.stagingFloor ≤ s.pool.free) (limit : (s.setCursor p w).replayCount < s.params.replayLimit) :
    fillStep p (s.released p w) = { s with
      cursors := s.cursors.set p { w with inFlight := true, reads := w.reads + 1 }
      mpt := s.mpt.send (.read n) (.cursor p) false
      signals := s.signals ++ [.wake] } := by
  have cursor := cursor_released (s := s) (p := p) (w := w)
  have step := fillStep_read (s := s.released p w) (p := p) (n := n) (reading_iff.mpr ⟨held, by rw [cursor]; exact reading⟩) idle
    (by rw [cursor]; exact fillOver_released inUse room few before hold) (by rw [cursor]; exact pos) there
    (takeGranted_iff.mpr ⟨Nat.succ_le_succ floor, limit⟩)
  rw [step, cursor]
  simp [State.released, State.setCursor]

theorem fillStep_released_seeks (held : s.mpt.holder = some (.cursor p)) (reading : w.phase = .reading) (idle : s.mpt.link = none)
    {i : Nat} (inUse : w.inUse = some i) (room : w.buffered.length < i) (few : w.reads < 8)
    (before : w.pastFrontier s.vom = false) (hold : w.hold = none) (pos : w.readPos = some n) (elsewhere : s.mpt.head ≠ some n) :
    fillStep p (s.released p w) = { s.released p w with mpt := s.mpt.send (.seek n) (.cursor p) false } := by
  have cursor := cursor_released (s := s) (p := p) (w := w)
  exact fillStep_seek (reading_iff.mpr ⟨held, by rw [cursor]; exact reading⟩) idle
    (by rw [cursor]; exact fillOver_released inUse room few before hold) (by rw [cursor]; exact pos) elsewhere

/-! ## The end of the fill (R121, R125, R133) -/

/-- A cursor at the frontier does not ask for the grant (R124). -/
theorem fillWanted_over (over_ : w.pastFrontier s.vom = true ∨ w.held s.vom.frontier = true) : s.fillWanted w = false := by
  obtain past | held := over_
  · exact fillWanted_pastFrontier past
  · simp [State.fillWanted, held]

theorem stopFill_released (held : s.mpt.holder = some (.cursor p)) (none_ : NoneAsks s)
    (derived : (s.cursor p).derive s.vom = s.cursor p) :
    release (.cursor p) (s.setCursor p { s.cursor p with phase := .idle }) = s.stopped p .idle ∧
      deriveCursor p (s.stopped p .idle) = s.stopped p .idle := by
  refine ⟨(release_noneAsks (s := s.setCursor p { s.cursor p with phase := .idle }) (by exact held) none_).trans
    (by simp [State.stopped, State.setCursor]), deriveCursor_same ?_⟩
  rw [State.cursor_stopped]
  exact (Cursor.derive_phase (s.cursor p) .idle s.vom).trans (by rw [derived])

/-- A fill stops that has no NEXT to answer and will not ask again (R124, R125). -/
theorem stopFill_idle (held : s.mpt.holder = some (.cursor p)) (none_ : NoneAsks s)
    (derived : (s.cursor p).derive s.vom = s.cursor p) (silent : (s.cursor p).next = none)
    (unwanted : (s.stopped p .idle).fillWanted { s.cursor p with phase := .idle } = false) :
    stopFill p .idle s = s.stopped p .idle := by
  obtain ⟨released, still⟩ := stopFill_released held none_ derived
  have cursor := State.cursor_stopped (s := s) (p := p) .idle
  have waits : endPending p (s.stopped p .idle) = s.stopped p .idle := by
    rw [endPending, cursor]
    dsimp only
    rw [silent]
  rw [stopFill, released, still, waits, if_neg fun ⟨starved, _⟩ => Phase.noConfusion starved]
  exact fillCheck_unwanted (by rw [cursor]; exact unwanted) (by rw [cursor]; exact Phase.noConfusion)

/-- A fill stops at the frontier, where its pending NEXT is answered END_OF_DATA (R125, R133). -/
theorem stopFill_answers {y : Tag} (held : s.mpt.holder = some (.cursor p)) (none_ : NoneAsks s)
    (derived : (s.cursor p).derive s.vom = s.cursor p) (pending : (s.cursor p).next = some y)
    (frontier : (s.cursor p).state = .atFrontier) (can : CanReply s p y)
    (over_ : (s.cursor p).pastFrontier s.vom = true ∨ (s.cursor p).held s.vom.frontier = true) :
    stopFill p .idle s = { s with
      ports := s.replied p y .endOfData (.endOfData (s.cursor p).readPos s.vom.frontierSlot)
        { s.replyMarks p y with gap := (s.cursor p).gap }
      cursors := s.cursors.set p { s.cursor p with phase := .idle, next := none, gap := false }
      mpt := { s.mpt with holder := none } } := by
  obtain ⟨released, still⟩ := stopFill_released held none_ derived
  have cursor := State.cursor_stopped (s := s) (p := p) .idle
  obtain ⟨x, isX⟩ : ∃ x : State, x = (s.stopped p .idle).setCursor p
    { s.cursor p with phase := .idle, next := none, gap := false } := ⟨_, rfl⟩
  have canX : CanReply x p y := by rw [isX]; exact can
  have answered : endPending p (s.stopped p .idle) = replyWith p y .endOfData
      (.endOfData (s.cursor p).readPos s.vom.frontierSlot) false (s.cursor p).gap x := by
    rw [endPending, cursor]
    dsimp only
    rw [pending]
    dsimp only
    rw [if_pos frontier, replyEndOfData, State.cursor_setCursor_same, State.setCursor_setCursor, isX]
    rfl
  have result : endPending p (s.stopped p .idle) = { s with
      ports := s.replied p y .endOfData (.endOfData (s.cursor p).readPos s.vom.frontierSlot)
        { s.replyMarks p y with gap := (s.cursor p).gap }
      cursors := s.cursors.set p { s.cursor p with phase := .idle, next := none, gap := false }
      mpt := { s.mpt with holder := none } } := by
    rw [answered, replyWith_replied canX, isX]
    simp [State.setCursor, State.stopped, State.replied, State.port, State.slot, State.marks, State.low]
  rw [stopFill, released, still, result, if_neg fun ⟨starved, _⟩ => Phase.noConfusion starved]
  have after : ({ s with
      ports := s.replied p y .endOfData (.endOfData (s.cursor p).readPos s.vom.frontierSlot)
        { s.replyMarks p y with gap := (s.cursor p).gap }
      cursors := s.cursors.set p { s.cursor p with phase := .idle, next := none, gap := false }
      mpt := { s.mpt with holder := none } } : State).cursor p =
      { s.cursor p with phase := .idle, next := none, gap := false } := by simp [State.cursor]
  exact fillCheck_unwanted (by rw [after]; exact fillWanted_over over_) (by rw [after]; exact Phase.noConfusion)

/-- The state of a cursor whose fill goes on (R121). -/
theorem derive_reading {v : VolumeRecord} (state : w.state = if w.buffered = [] then .filling else .ready)
    (before : w.pastFrontier v = false) (hold : w.hold = none) : w.derive v = w := by
  by_cases empty : w.buffered = []
  · rw [if_pos empty] at state
    rw [Cursor.derive_filling (by simp [state]) empty before (by rw [Cursor.held, hold]), ← state]
  · rw [if_neg empty] at state
    exact Cursor.derive_ready state empty v

/-- The state of a cursor whose fill stops at the frontier (R121, R128). -/
theorem derive_stopping {v : VolumeRecord} (state : w.state = if w.buffered = [] then .filling else .ready)
    (over_ : w.pastFrontier v = true ∨ w.held v.frontier = true) :
    w.derive v = { w with state := if w.buffered = [] then .atFrontier else .ready } := by
  by_cases empty : w.buffered = []
  · rw [if_pos empty] at state ⊢
    rw [Cursor.derive, if_neg (by simp [state]), if_neg (not_not_intro empty), if_pos (by simpa using over_)]
  · rw [if_neg empty] at state ⊢
    rw [Cursor.derive_ready state empty v, ← state]

/-- That state stands (R121). -/
theorem derive_stopped {v : VolumeRecord} (over_ : w.pastFrontier v = true ∨ w.held v.frontier = true) :
    Cursor.derive { w with state := if w.buffered = [] then .atFrontier else .ready } v =
      { w with state := if w.buffered = [] then .atFrontier else .ready } := by
  by_cases empty : w.buffered = []
  · have isOver : (Cursor.pastFrontier { w with state := .atFrontier } v ||
        Cursor.held { w with state := .atFrontier } v.frontier) = true := (Bool.or_eq_true _ _).mpr over_
    rw [if_pos empty, Cursor.derive, if_neg (by simp), if_neg (not_not_intro empty), if_pos isOver]
  · rw [if_neg empty]
    exact Cursor.derive_ready (c := { w with state := .ready }) rfl empty v

end Next

/-! The end of a cursor's read, from the completion to the end of the step (R65, R125 to R133, R136). -/

/-! ## A read of a filling cursor ends -/

/-- Port p's cursor, which fills and holds the grant, reads slot n, and nobody waits for the grant (R125). -/
structure ReadEnding (s : State) (p : Port) (k : Byte) (n d sd i : Nat) : Prop where
  quiet : s.signals = []
  linked : s.mpt.link = some { op := .read n, number := k, issuer := .cursor p }
  held : s.mpt.holder = some (.cursor p)
  asks : NoneAsks s
  frontier : s.vom.frontier = some d
  slot : s.vom.frontierSlot = some sd

/-- The cursor `w` behind its read of slot n goes on filling as `x` did. -/
structure Cursor.FillsAs (w x : Cursor) (i : Nat) : Prop where
  phase : w.phase = .reading
  state : w.state = if w.buffered = [] then .filling else .ready
  buffered : w.buffered.length = x.buffered.length
  inUse : w.inUse = some i
  room : w.buffered.length < i
  reads : w.reads = x.reads

section Ending

variable {s a : State} {p : Port} {k : Byte} {n d sd i : Nat} {cls : SlotClass} {bytes : Option (List Byte)} {w z : Cursor}
  {ports : Vector HostPort 4}

/-- The step of a read's completion, where the buffer's wake-up finds nobody waiting (R55, R65). -/
theorem finish_cursorRead (r : ReadEnding s p k n d sd i)
    (acts : cursorRead p n cls (bytes.getD []) (endOperation (some (n + 1)) s) = a) (hands : handOver a = a)
    (reports : a.signals = [.wake]) (none_ : NoneWaits a) :
    finish (completion k DriveOp.isRead (fun o => some (o.op.slot + 1)) (readAnswer cls bytes) s) =
      .next (driveInhibit { a with signals := [], choice := a.choice + 2 }) := by
  rw [completion_accepted r.linked rfl rfl]
  change finish (handOver (cursorRead p n cls (bytes.getD []) (endOperation (some (n + 1)) s))) = _
  rw [acts, hands]
  exact finish_wake reports none_

theorem noneWaits_setCursor (none_ : NoneWaits s) (phase : w.phase ≠ .starved) : NoneWaits (s.setCursor p w) :=
  ⟨none_.1, phases_setCursor none_.2 phase⟩

/-- The fill goes on at the next slot (R125). -/
theorem finish_readsOn (r : ReadEnding s p k n d sd i)
    (acts : cursorRead p n cls (bytes.getD []) (endOperation (some (n + 1)) s) =
      fillStep p (({ endOperation (some (n + 1)) s with ports := ports } : State).released p w))
    (fills : w.FillsAs (s.cursor p) i) (few : (s.cursor p).reads < 8) (within : n + 1 ≤ sd) (pos : w.readPos = some (n + 1))
    (hold : w.hold = none) (none_ : NoneWaits s) (floor : s.params.stagingFloor ≤ s.pool.free)
    (limit : s.replayCount ≤ s.params.replayLimit) :
    finish (completion k DriveOp.isRead (fun o => some (o.op.slot + 1)) (readAnswer cls bytes) s) =
      .next (driveInhibit { s.readsOn p n w with ports := ports }) := by
  have count := replayCount_ended (s := s) (p := p) (w := w) (n := n) r.linked rfl fills.buffered
  have step := fillStep_released_reads (s := { endOperation (some (n + 1)) s with ports := ports }) (p := p) (w := w) (n := n + 1)
    r.held fills.phase rfl fills.inUse fills.room (fills.reads ▸ few) (pastFrontier_of_le r.frontier r.slot pos within) hold pos rfl
    floor (by
      change ((endOperation (some (n + 1)) s).setCursor p w).replayCount < s.params.replayLimit
      omega)
  refine (finish_cursorRead r (acts.trans step) (handOver_held r.held) (by simp [endOperation, r.quiet])
    (noneWaits_setCursor (s := s) none_ (by exact fun starved => by simp [fills.phase] at starved))).trans ?_
  simp [State.readsOn, endOperation, MediumPort.send, Config.opLimit, fills.reads, pos, hold, r.quiet]

/-- The cursor resynchronises at another slot, and seeks it (R125, R130). -/
theorem finish_seeksBack {j : Nat} (r : ReadEnding s p k n d sd i)
    (acts : cursorRead p n cls (bytes.getD []) (endOperation (some (n + 1)) s) =
      fillStep p ((endOperation (some (n + 1)) s).released p w))
    (resyncs : w = { s.cursor p with
      readPos := some j, expected := none, skipped := 0, candidate := none, hold := none, gap := true, inFlight := false })
    (fills : w.FillsAs (s.cursor p) i) (few : (s.cursor p).reads < 8) (within : j ≤ sd) (elsewhere : j ≠ n + 1)
    (none_ : NoneWaits s) :
    finish (completion k DriveOp.isRead (fun o => some (o.op.slot + 1)) (readAnswer cls bytes) s) =
      .next (driveInhibit (s.seeksBack p n j)) := by
  have pos : w.readPos = some j := by rw [resyncs]
  have step := fillStep_released_seeks (s := endOperation (some (n + 1)) s) (p := p) (w := w) (n := j) r.held fills.phase rfl
    fills.inUse fills.room (fills.reads ▸ few) (pastFrontier_of_le r.frontier r.slot pos within) (by rw [resyncs]) pos
    (fun same => elsewhere (Option.some.inj same).symm)
  refine (finish_cursorRead r (acts.trans step) (handOver_held r.held) (by simp [State.released, endOperation, r.quiet])
    (noneWaits_setCursor (s := s) none_ (by exact fun starved => by simp [fills.phase] at starved))).trans ?_
  simp [State.seeksBack, State.released, State.setCursor, endOperation, MediumPort.send, Config.opLimit, resyncs, r.quiet]

/-- The fill stops at the frontier, and its pending NEXT is answered END_OF_DATA (R121, R125, R128, R133). -/
theorem finish_stops (r : ReadEnding s p k n d sd i)
    (acts : cursorRead p n cls (bytes.getD []) (endOperation (some (n + 1)) s) =
      fillStep p ((endOperation (some (n + 1)) s).released p { z with state := if z.buffered = [] then .atFrontier else .ready }))
    (fills : z.FillsAs (s.cursor p) i) (landed : z.inFlight = false) (clean : z.next ≠ none → z.buffered = [])
    (over_ : z.pastFrontier s.vom = true ∨ z.held s.vom.frontier = true) (none_ : NoneWaits s) :
    (z.next = none →
      finish (completion k DriveOp.isRead (fun o => some (o.op.slot + 1)) (readAnswer cls bytes) s) =
        .next (driveInhibit (s.stopsAtFrontier p n z))) ∧
    (∀ y, z.next = some y → CanReply s p y →
      finish (completion k DriveOp.isRead (fun o => some (o.op.slot + 1)) (readAnswer cls bytes) s) =
        .next (driveInhibit { s.stopsAtFrontier p n { z with next := none, gap := false } with
          ports := s.replied p y .endOfData (.endOfData z.readPos (some sd)) { s.replyMarks p y with gap := z.gap } })) := by
  obtain ⟨x, isX⟩ : ∃ x : Cursor, x = { z with state := if z.buffered = [] then .atFrontier else .ready } := ⟨_, rfl⟩
  obtain ⟨v, isV⟩ : ∃ v : State, v = (endOperation (some (n + 1)) s).released p x := ⟨_, rfl⟩
  have cursor : v.cursor p = x := by rw [isV]; exact cursor_released
  have phase : x.phase = .reading := by rw [isX]; exact fills.phase
  have overX : x.pastFrontier s.vom = true ∨ x.held s.vom.frontier = true := by rw [isX]; exact over_
  have vom : v.vom = s.vom := by rw [isV]; rfl
  have held : v.mpt.holder = some (.cursor p) := by rw [isV]; exact r.held
  have asks : NoneAsks v := by rw [isV]; exact r.asks
  have derived : (v.cursor p).derive v.vom = v.cursor p := by
    rw [cursor, vom, isX]
    exact derive_stopped over_
  have step : fillStep p v = stopFill p .idle v := by
    refine fillStep_over (reading_iff.mpr ⟨held, by rw [cursor]; exact phase⟩) (by rw [isV]; rfl) ?_
    rw [cursor, State.fillOver, vom, Bool.or_eq_true, Bool.or_eq_true]
    exact overX.imp .inr id
  rw [← isX, ← isV, step] at acts
  have awake {a : Cursor} (idle : a.phase = .idle) : NoneWaits (v.setCursor p a) := by
    rw [isV]
    exact noneWaits_setCursor (noneWaits_setCursor (s := s) none_ (by simp [phase])) (by simp [idle])
  refine ⟨fun silent => ?_, fun y pending can => ?_⟩
  · have stops := stopFill_idle held asks derived (by rw [cursor, isX]; exact silent)
      (by rw [cursor]; exact fillWanted_over (by rw [isV]; exact overX))
    refine (finish_cursorRead r (acts.trans stops) (handOver_noneAsks asks) (by rw [isV]; simp [State.stopped, State.setCursor,
      State.released, endOperation, r.quiet])
      (awake (a := { v.cursor p with phase := .idle }) rfl)).trans ?_
    rw [State.stopped, cursor, isV, isX]
    simp [State.stopsAtFrontier, State.released, State.setCursor, endOperation, r.quiet, landed]
  · have stops := stopFill_answers (y := y) held asks derived (by rw [cursor, isX]; exact pending)
      (by rw [cursor, isX]; exact if_pos (clean (by simp [pending]))) (by rw [isV]; exact can) (by rw [cursor, vom]; exact overX)
    refine (finish_cursorRead r (acts.trans stops) (handOver_noneAsks asks) (by rw [isV]; simp [State.released, endOperation,
      r.quiet])
      (awake (a := { v.cursor p with phase := .idle, next := none, gap := false }) rfl)).trans ?_
    rw [cursor, isV, isX]
    simp [State.stopsAtFrontier, State.released, State.setCursor, endOperation, r.quiet, landed, r.slot, State.replied, State.port,
      State.slot, State.marks, State.low]

/-- The read-ahead is reached: the fill stops, and the grant goes (R124, R125). -/
theorem finish_kept (r : ReadEnding s p k n d sd i)
    (acts : cursorRead p n cls (bytes.getD []) (endOperation (some (n + 1)) s) =
      fillStep p ((endOperation (some (n + 1)) s).setCursor p w))
    (reading : w.phase = .reading) (derived : w.derive s.vom = w) (silent : w.next = none) (inUse : w.inUse = some i)
    (full : i ≤ w.buffered.length) (enough : 2 ≤ w.buffered.length ∨ s.params.readahead ≤ w.buffered.length) :
    finish (completion k DriveOp.isRead (fun o => some (o.op.slot + 1)) (readAnswer cls bytes) s) =
      .next (driveInhibit { s with
        mpt := { s.mpt with link := none, timer := none, retry := false, head := some (n + 1), holder := none }
        cursors := s.cursors.set p { w with phase := .idle } }) := by
  obtain ⟨v, isV⟩ : ∃ v : State, v = (endOperation (some (n + 1)) s).setCursor p w := ⟨_, rfl⟩
  have cursor : v.cursor p = w := by rw [isV]; exact State.cursor_setCursor_same _ p w
  have held : v.mpt.holder = some (.cursor p) := by rw [isV]; exact r.held
  have asks : NoneAsks v := by rw [isV]; exact r.asks
  have step : fillStep p v = stopFill p .idle v := by
    refine fillStep_over (reading_iff.mpr ⟨held, by rw [cursor]; exact reading⟩) (by rw [isV]; rfl) ?_
    simp [cursor, State.fillOver, inUse, full]
  have unwanted : (v.stopped p .idle).fillWanted { w with phase := .idle } = false := by
    obtain many | many := enough
    · exact fillWanted_stocked many
    · have notLess : ¬w.buffered.length < (v.stopped p .idle).params.readahead := by
        rw [isV]
        exact Nat.not_lt.mpr many
      simp [State.fillWanted, notLess]
  have stops := stopFill_idle held asks (by rw [cursor, isV]; exact derived) (by rw [cursor]; exact silent)
    (by rw [cursor]; exact unwanted)
  rw [← isV, step, stops] at acts
  have quiet : (v.stopped p .idle).signals = [] := by rw [isV]; exact r.quiet
  refine (finish_completion (kind := DriveOp.isRead) (head := fun o => some (o.op.slot + 1)) (act := readAnswer cls bytes) r.linked
    rfl rfl acts (handOver_noneAsks asks) quiet).trans ?_
  rw [State.stopped, cursor, isV]
  simp [State.setCursor, endOperation]

end Ending

/-! The statement about a cursor's reads (R65, R125 to R133, R136). -/

section Cases

variable {s : State} {p : Port} {k : Byte} {n d sd i : Nat} {cls : SlotClass} {good : Option SlotHeader} {h : SlotHeader}
  {bytes : Option (List Byte)} {v : VolumeRecord} {c : Cursor} {image : List Byte}

theorem readsAs_good (as_ : ReadsAs cls good) (isGood : good = some h) : cls = .good h := by
  subst isGood
  obtain ⟨none_, -⟩ | ⟨g, same, rfl⟩ := as_
  · cases none_
  · cases same
    rfl

theorem derive_stocked (isOpen : ¬(c.state = .closed ∨ c.state = .failed)) (some_ : c.buffered ≠ []) :
    c.derive v = { c with state := .ready } := by
  rw [Cursor.derive, if_neg isOpen, if_pos some_]

/-- A cursor behind an accepted slot a record of which passes (R127, R130, R131). -/
def Cursor.kept (c : Cursor) (n : Nat) (h : SlotHeader) (image : List Byte) : Cursor :=
  { c.readBeyond n with
    expected := some (h.bsn + 1), last := some h.bsn, candidate := none, skipped := 0, gap := false
    buffered := c.buffered ++ [{ image := image, slot := n, gap := c.gap }] }

theorem afterRead_kept (frontier : v.frontier = some d) (takes : c.takes d h) (some_ : c.filter.select image ≠ []) :
    c.afterRead v n (.good h) image = (c.kept n h image, true) := by
  have keep : (!(c.filter.select image).isEmpty) = true := by simpa using some_
  rw [afterRead_takes frontier takes, keep]
  rfl

/-- A cursor behind an accepted slot no record of which passes (R131). -/
theorem afterRead_accepted (frontier : v.frontier = some d) (takes : c.takes d h) (none_ : c.filter.select image = []) :
    c.afterRead v n (.good h) image = ({ c.readBeyond n with
      expected := some (h.bsn + 1), last := some h.bsn, candidate := none, skipped := 0 }, false) := by
  have drop_ : (!(c.filter.select image).isEmpty) = false := by simp [none_]
  rw [afterRead_takes frontier takes, drop_]
  rfl

end Cases

/-- Settles O57, by the judgement of the slot and the fill's next step. -/
theorem Settled.cursorRead : Obligations.CursorRead := by
  refine ⟨fun s k p n d sd i c good bytes x quiet linked held asks isX phase state clean inUse room frontier slot ends => ?_,
    fun s k p n c good bytes quiet linked none_ ends => ⟨fun asks => ?_, fun free waits ejecting => ?_⟩⟩
  · subst isX
    obtain ⟨cls, as_, runs⟩ := exec_readEnds ends s
    have r : ReadEnding s p k n d sd i := ⟨quiet, linked, held, asks, frontier, slot⟩
    rw [runs]
    have fills {w : Cursor} (phase' : w.phase = (s.cursor p).phase) (state' : w.state = (s.cursor p).state)
        (buffered : w.buffered = (s.cursor p).buffered) (inUse' : w.inUse = (s.cursor p).inUse)
        (reads : w.reads = (s.cursor p).reads) : w.FillsAs (s.cursor p) i :=
      ⟨phase'.trans phase, by rw [state', buffered]; exact state, congrArg List.length buffered, inUse'.trans inUse,
        by rw [buffered]; exact room, reads⟩
    have readsOn {w c : Cursor} (after : (s.cursor p).afterRead s.vom n cls (bytes.getD []) = (w, false))
        (as : w.FillsAs (s.cursor p) i) (within : n + 1 ≤ sd) (few : (s.cursor p).reads < 8) (pos : w.readPos = some (n + 1))
        (hold : w.hold = none) (none_ : NoneWaits s) (floor : s.params.stagingFloor ≤ s.pool.free)
        (limit : s.replayCount ≤ s.params.replayLimit) (same : s.readsOn p n w = s.readsOn p n c) :
        finish (completion k DriveOp.isRead (fun o => some (o.op.slot + 1)) (readAnswer cls bytes) s) =
          .next (driveInhibit (s.readsOn p n c)) :=
      same ▸ finish_readsOn (ports := s.ports) r (cursorRead_released (s := endOperation (some (n + 1)) s) after
        (derive_reading as.state (pastFrontier_of_le frontier slot pos within) hold)) as few within pos hold none_ floor limit
    have past (w : Cursor) (pos : w.readPos = some (n + 1)) (beyond : sd < n + 1) : w.pastFrontier s.vom = true := by
      refine pastFrontier_iff.mpr (.inr fun sd' slot' => ?_)
      obtain rfl := Option.some.inj (slot.symm.trans slot')
      rw [pos]
      exact beyond
    have isOpen : ¬((s.cursor p).state = .closed ∨ (s.cursor p).state = .failed) := by
      rw [state]
      split <;> simp
    have stocked (h : SlotHeader) : Cursor.derive ((s.cursor p).kept n h (bytes.getD [])) s.vom =
        { (s.cursor p).kept n h (bytes.getD []) with state := .ready } :=
      derive_stocked isOpen (by simp [Cursor.kept])
    refine ⟨fun h isGood takes some_ silent full enough => ?_,
      fun within few none_ floor limit => ⟨fun passes stays => ?_, fun h isGood misses short => ?_,
        fun h isGood takes none' => ?_, fun h y isGood takes some_ pending can => ?_⟩,
      fun j y few none_ within elsewhere cases_ => ?_, fun z none_ candidate cases_ => ?_⟩
    · obtain rfl := readsAs_good as_ isGood
      have after := afterRead_kept (n := n) (image := bytes.getD []) frontier takes some_
      exact finish_kept r (cursorRead_kept (s := endOperation (some (n + 1)) s) after (stocked h) silent) phase
        (Cursor.derive_ready rfl (by simp [Cursor.kept]) s.vom) silent inUse (by simp [Cursor.kept, full])
        (by simpa [Cursor.kept, full] using enough)
    · have before : ((s.cursor p).readBeyond n).skip.pastFrontier s.vom = false := pastFrontier_of_le frontier slot rfl within
      have after := afterRead_passesBy (n := n) (image := bytes.getD []) frontier as_ passes
      rw [checkLost_stays (stays.imp id fun short => ⟨Nat.lt_of_le_of_lt (Nat.min_le_left _ _) short, before⟩)] at after
      exact readsOn after (fills rfl rfl rfl rfl rfl) within few rfl rfl none_ floor limit rfl
    · obtain rfl := readsAs_good as_ isGood
      have before : (Cursor.skip { (s.cursor p).readBeyond n with
        candidate := some ((s.cursor p).candidate.getD (n, h.bsn)) }).pastFrontier s.vom = false :=
        pastFrontier_of_le frontier slot rfl within
      have count : min ((s.cursor p).skipped + 1) 32 = (s.cursor p).skipped + 1 := Nat.min_eq_left (Nat.le_of_lt short)
      have after := afterRead_missesAt (n := n) (image := bytes.getD []) frontier misses
      rw [checkLost_stays (.inr ⟨Nat.lt_of_le_of_lt (Nat.min_le_left _ _) short, before⟩)] at after
      rw [← count]
      exact readsOn after (fills rfl rfl rfl rfl rfl) within few rfl rfl none_ floor limit rfl
    · obtain rfl := readsAs_good as_ isGood
      exact readsOn (afterRead_accepted frontier takes none') (fills rfl rfl rfl rfl rfl) within few rfl rfl none_ floor limit rfl
    · obtain rfl := readsAs_good as_ isGood
      obtain ⟨bsn, session⟩ := readEnds_header ends isGood
      have empty : (s.cursor p).buffered = [] := clean.resolve_left (by simp [pending])
      have after := afterRead_kept (n := n) (image := bytes.getD []) frontier takes some_
      obtain ⟨w, isW⟩ : ∃ w : Cursor, w = { (s.cursor p).readBeyond n with
        expected := some (h.bsn + 1), last := some h.bsn, candidate := none, skipped := 0, gap := false, next := none } := ⟨_, rfl⟩
      have again : Cursor.derive
          { (s.cursor p).kept n h (bytes.getD []) with state := .ready, next := none, buffered := [] } s.vom = w := by
        rw [Cursor.derive_filling (by simp) rfl (pastFrontier_of_le frontier slot rfl within) rfl, isW]
        simp [Cursor.kept, Cursor.readBeyond, empty, state]
      have delivers := cursorRead_delivered (s := endOperation (some (n + 1)) s) (y := y)
        (e := { image := bytes.getD [], slot := n, gap := (s.cursor p).gap }) after (stocked h) pending (by simp [Cursor.kept,
          empty])
        phase again can
      have as : w.FillsAs (s.cursor p) i := by
        rw [isW]
        exact fills rfl rfl rfl rfl rfl
      have body : Buffered.body { image := bytes.getD [], slot := n, gap := (s.cursor p).gap } (s.cursor p).filter =
          .block h.bsn n h.session ((s.cursor p).filter.select (bytes.getD [])) := by
        rw [Buffered.body, bsn, session]
      have run := finish_readsOn r delivers as few within (by rw [isW]; rfl) (by rw [isW]; rfl) none_ floor limit
      rw [run, isW, ← body]
      rfl
    · have acts {w : Cursor} (after : (s.cursor p).afterRead s.vom n cls (bytes.getD []) = (w, false))
          (is : w = { s.cursor p with
            readPos := some j, expected := none, skipped := 0, candidate := none, hold := none, gap := true, inFlight := false }) :
          finish (completion k DriveOp.isRead (fun o => some (o.op.slot + 1)) (readAnswer cls bytes) s) =
            .next (driveInhibit (s.seeksBack p n j)) := by
        have as : w.FillsAs (s.cursor p) i := by
          rw [is]
          exact fills rfl rfl rfl rfl rfl
        refine finish_seeksBack r (cursorRead_released (s := endOperation (some (n + 1)) s) after
          (derive_reading as.state (pastFrontier_of_le frontier slot ?_ within) ?_)) is as few within elsewhere none_
        · rw [is]
        · rw [is]
      obtain ⟨passes, candidate, lost⟩ | ⟨h, isGood, misses, candidate, lost⟩ | ⟨h, isGood, above, candidate⟩ := cases_
      · have after := afterRead_passesBy (n := n) (image := bytes.getD []) frontier as_ passes
        rw [checkLost_resyncs (c := ((s.cursor p).readBeyond n).skip) (j := j) (y := y) candidate (lost.imp
          (fun many => Nat.le_min.mpr ⟨many, le_rfl⟩) (past _ rfl))] at after
        exact acts after rfl
      · obtain rfl := readsAs_good as_ isGood
        have after := afterRead_missesAt (n := n) (image := bytes.getD []) frontier misses
        rw [checkLost_resyncs (c := Cursor.skip { (s.cursor p).readBeyond n with
            candidate := some ((s.cursor p).candidate.getD (n, h.bsn)) }) (j := j) (y := y) (congrArg some candidate)
          (lost.imp (fun many => Nat.le_min.mpr ⟨many, le_rfl⟩) (past _ rfl))] at after
        exact acts after rfl
      · obtain rfl := readsAs_good as_ isGood
        have after := afterRead_beyond (n := n) (image := bytes.getD []) frontier above (c := s.cursor p)
        rw [stopAt_resyncs (c := (s.cursor p).readBeyond n) candidate] at after
        exact acts after rfl
    · have acts {w : Cursor} (after : (s.cursor p).afterRead s.vom n cls (bytes.getD []) = (w, false))
          (as : w.FillsAs (s.cursor p) i) (landed : w.inFlight = false) (next : w.next = (s.cursor p).next)
          (buffered : w.buffered = (s.cursor p).buffered) (gap : w.gap = (s.cursor p).gap)
          (over_ : w.pastFrontier s.vom = true ∨ w.held s.vom.frontier = true) :=
        finish_stops r (cursorRead_released (s := endOperation (some (n + 1)) s) after (derive_stopping as.state over_)) as landed
          (fun some_ => buffered.trans (clean.resolve_left (next ▸ some_))) over_ none_
      obtain ⟨h, isGood, above, rfl⟩ | ⟨passes, beyond, rfl⟩ := cases_
      · obtain rfl := readsAs_good as_ isGood
        have after := afterRead_beyond (n := n) (image := bytes.getD []) frontier above (c := s.cursor p)
        rw [stopAt_alone (c := (s.cursor p).readBeyond n) candidate] at after
        exact acts after (fills rfl rfl rfl rfl rfl) rfl rfl rfl rfl (.inr (by
          rw [frontier]
          exact decide_eq_true above))
      · have after := afterRead_passesBy (n := n) (image := bytes.getD []) frontier as_ passes
        rw [checkLost_stays (c := ((s.cursor p).readBeyond n).skip) (.inl candidate)] at after
        exact acts after (fills rfl rfl rfl rfl rfl) rfl rfl rfl rfl (.inl (past _ rfl beyond))
  · obtain ⟨cls, -, runs⟩ := exec_readEnds ends s
    rw [runs, completion_accepted linked rfl rfl]
    change finish (handOver (freeBuffers 1 (endOperation (some (n + 1)) s))) = _
    rw [handOver_noneAsks (s := freeBuffers 1 (endOperation (some (n + 1)) s)) asks]
    exact finish_freeBuffers (u := endOperation (some (n + 1)) s) (k := 1) rfl quiet none_
  · obtain ⟨cls, -, runs⟩ := exec_readEnds ends s
    rw [runs, completion_accepted linked rfl rfl]
    change finish (handOver (freeBuffers 1 (endOperation (some (n + 1)) s))) = _
    obtain ⟨a, isA⟩ : ∃ a : State, a = freeBuffers 1 (endOperation (some (n + 1)) s) := ⟨_, rfl⟩
    have reports : (raise (.granted .volume) a.volumeHolds).signals = [.wake, .granted .volume] := by
      rw [isA]
      simp [raise, State.volumeHolds, freeBuffers, endOperation, quiet]
    have woken := settles_wake reports (by rw [isA]; exact none_)
    have ejects := volumeGranted_ejects (s := { a.volumeHolds with signals := [], choice := a.choice + 2 }) rfl
      (by rw [isA]; exact ejecting) (by rw [isA]; rfl)
    rw [← isA, handOver_volume (by rw [isA]; exact free) (by rw [isA]; rfl) (by rw [isA]; exact waits)]
    refine (finish_of_settles (woken.trans (.last rfl ejects)) rfl).trans ?_
    rw [isA]
    simp [State.volumeHolds, freeBuffers, raise, endOperation, MediumPort.send, Config.opLimit, quiet]

end Sys2Proof.Machine
